-- ==== Sys2Proof/Word.lean ====
section
/-! DEFINITION. The word types of the block (`spec/00_scope.md` R8, `spec/40_crc.md` R90): nibbles, bytes and
16-bit fields, all unsigned, and the opaque text of labels. -/

namespace Sys2Proof

/-- A nibble, 0 to 15 (R8). -/
abbrev Nibble := BitVec 4

/-- A byte, 0 to 255 (R8). -/
abbrev Byte := BitVec 8

/-- A 16-bit field of a frame (R31, R55). -/
abbrev Half := BitVec 16

/-- Opaque text, carried through and never interpreted (R150): field labels, model names, and the information an
`IoFault` passes through (R207). -/
abbrev Label := String

end Sys2Proof
end

