-- ==== Sys2Proof/Machine/Bits.lean ====
section
/-! DEFINITION. Nibbles of a byte, halves of a 16-bit field and their little-endian join, and the integers that are
bytes (`spec/00_scope.md` R8, `spec/30_encoding.md` R55, `spec/40_crc.md` R90). -/

namespace Sys2Proof

/-- `b[7:4]` (R8). -/
def highNibble (b : Byte) : Nibble := (b >>> 4).setWidth 4

/-- `b[3:0]` (R8). -/
def lowNibble (b : Byte) : Nibble := b.setWidth 4

/-- `lo8(w) = w & 0xFF` (R8). -/
def lo8 (w : Half) : Byte := w.setWidth 8

/-- `hi8(w) = (w >> 8) & 0xFF` (R8). -/
def hi8 (w : Half) : Byte := (w >>> 8).setWidth 8

/-- An integer as a byte, absent when it fits none: a number is never truncated to fit (R90, R106). -/
def byteOf (z : Int) : Option Byte := if 0 ≤ z ∧ z ≤ 255 then some (BitVec.ofNat 8 z.toNat) else none

/-- `le16(lo, hi) = lo | (hi << 8)` (R8, R55). -/
def le16 (lo hi : Byte) : Half := lo.setWidth 16 ||| (hi.setWidth 16 <<< 8)

end Sys2Proof
end

