-- ==== Sys2Proof/Config.lean ====
section
/-! DEFINITION. What an implementation fixes (`spec/00_scope.md` R7) and the one free value of the model: the
answers of the transport that nothing in State scripts (`spec/44_session.md` R172, D28). -/

namespace Sys2Proof

/-- An inclusive setter range (R7, R181). -/
structure Range where
  min : Nat
  max : Nat
  deriving DecidableEq, Repr

/-- The parameters of the block that the spec leaves to a parameter (R7, D3, D4, U6). They are plain data carried in
State, so that a statement about every state holds for every value of them (log entry 1). -/
structure Params where
  /-- `LOOKUP_HIGH[0..15]`, XORed into `crc_high` (R18). -/
  lookupHigh : Vector Byte 16
  /-- `LOOKUP_LOW[0..15]`, XORed into `crc_low` (R18). -/
  lookupLow : Vector Byte 16
  /-- `LEN_ALL`, the whole-block sentinel of a Read request (R56). -/
  lenAll : Half
  /-- `RANGE_TARGET` (R182). -/
  rangeTarget : Range
  /-- `RANGE_FROST` (R183). -/
  rangeFrost : Range
  /-- `RANGE_FLOORMAX` (R184). -/
  rangeFloorMax : Range
  deriving DecidableEq, Repr

/-- `max_reply`: the reply size a session asks the transport for (R7, D16): 75 or 159 and nothing else. -/
inductive ReplySize where
  /-- 75 bytes, the 5/2-day mode. -/
  | fiveTwoDay
  /-- 159 bytes, the 7-day mode. -/
  | sevenDay
  deriving DecidableEq, Repr

/-- The session parameters the spec leaves open with no default (R7, D17). -/
structure SessionAttrs where
  /-- `IDX_FLOORMAX` (R178). -/
  idxFloorMax : Nat
  /-- `IDX_MODE` (R179). -/
  idxMode : Nat
  /-- `IDX_SENSOR` (R180). -/
  idxSensor : Nat
  /-- `REG_TARGET` (R182). -/
  regTarget : Nat
  /-- `REG_FROST` (R183). -/
  regFrost : Nat
  /-- `REG_FLOORMAX` (R184). -/
  regFloorMax : Nat
  /-- `SENSOR_LABEL[0..4]` (R180). -/
  sensorLabel : Vector Label 5
  deriving DecidableEq, Repr

/-- What the Transport Adapter answers to one exchange, that is one `write` and, when it succeeded, one `read`
(R172, R175). -/
inductive TransportAnswer where
  /-- `write` answers an IoFault, so `read` is not called. -/
  | writeFault (info : Label)
  /-- `write` answers Ok and `read` an IoFault (a timeout included). -/
  | readFault (info : Label)
  /-- `write` answers Ok and `read` these bytes. -/
  | reply (bytes : List Byte)
  deriving DecidableEq, Repr, Inhabited

/-- FREE VALUE (R172, U11, log entry 7): what the Transport Adapter numbered `k` answers to the `n`-th exchange on it that
no script answers. Nothing constrains it, and nothing ties one adapter's answers to another's. -/
opaque Config.freeAnswer : (k n : Nat) → TransportAnswer

end Sys2Proof
end

