-- ==== Sys2Proof/Syntax.lean ====
section
/-! DEFINITION. The operations of the block and the frame kinds of the wire, one constructor per row of
`spec/opcode_table.json` (`spec/30_encoding.md` R60, R70), the operand values they carry, and their encoded form. -/

namespace Sys2Proof

/-- The two function codes (`spec/30_encoding.md` R53). -/
inductive Func where
  | read
  | write
  deriving DecidableEq, Repr

/-- One entry of a layout's ordered field list (`spec/43_field_decode.md` R150). -/
structure FieldDecl where
  index : Nat
  label : Label
  deriving DecidableEq, Repr

/-- A device layout: an offset and an ordered list of fields (R150). -/
structure Layout where
  offset : Int
  fields : List FieldDecl
  deriving DecidableEq, Repr

/-- The instructions of the block: one constructor per row of the opcode table. -/
inductive Instr where
  /-- CRC.INIT (R81). -/
  | crcInit
  /-- CRC.NIB v (R82). -/
  | crcNib (v : Nibble)
  /-- CRC.BYTE b (R83). -/
  | crcByte (b : Byte)
  /-- CRC.RD (R84). -/
  | crcRd
  /-- CRC.RUN bytes (R85). -/
  | crcRun (bytes : List Byte)
  /-- CRC.VFY bytes, trailer (R86). -/
  | crcVfy (bytes trailer : List Byte)
  /-- REQ.READ dest_id, source_id, start_register (R101). -/
  | reqRead (dest source : Byte) (start : Nat)
  /-- REQ.WRITE dest_id, source_id, start_register, payload (R103). -/
  | reqWrite (dest source : Byte) (start : Nat) (payload : List Byte)
  /-- RPY.VAL dest_id_expected, source_id_expected, function_expected, raw_bytes (R120). -/
  | rpyVal (dest source : Byte) (func : Func) (raw : List Byte)
  /-- FLD.GET raw_reply, index, offset (R151). -/
  | fldGet (raw : List Byte) (index : Nat) (offset : Int)
  /-- FLD.DEC raw_reply, layout (R152). -/
  | fldDec (raw : List Byte) (layout : Layout)
  /-- SES.REFRESH (R173). -/
  | sesRefresh
  /-- SES.WRREG register, value (R174). -/
  | sesWrreg (register value : Nat)
  /-- SES.GET index (R176). -/
  | sesGet (index : Nat)
  /-- SES.GET.TARGET (R177). -/
  | sesGetTarget
  /-- SES.GET.FLOORMAX (R178). -/
  | sesGetFloormax
  /-- SES.GET.MODE (R179). -/
  | sesGetMode
  /-- SES.GET.SENSOR (R180). -/
  | sesGetSensor
  /-- SES.SET.TARGET t (R182). -/
  | sesSetTarget (t : Int)
  /-- SES.SET.FROST t (R183). -/
  | sesSetFrost (t : Int)
  /-- SES.SET.FLOORMAX t (R184). -/
  | sesSetFloormax (t : Int)
  /-- REQFRAME.READ: a Read request frame of the wire; its other bytes are fixed by R51 and R60. -/
  | reqframeRead (dest source : Byte) (start : Half)
  /-- REQFRAME.WRITE: a Write request frame of the wire; its other bytes are fixed by R51 and R60. -/
  | reqframeWrite (dest source : Byte) (start : Half) (payload : List Byte)
  /-- RPYFRAME.READ: a reply frame of the wire with function byte 0 (R52, R60); every other byte is free. -/
  | rpyframeRead (dest lenLow lenHigh source : Byte) (payload : List Byte) (crcLow crcHigh : Byte)
  /-- RPYFRAME.WRITEACK: a 7-byte reply frame with function byte 1 and length bytes 07 00 (R52, R60). -/
  | rpyframeWriteack (dest source crcLow crcHigh : Byte)
  deriving DecidableEq, Repr

/-- An operand as the caller gives it: operands are typed values with no binary encoding of their own (D20, log
entry 9). A number stands for a nibble, a byte, a natural number, an integer or a function code; the decoder checks
that it lies in the operand's type (R71). -/
inductive Operand where
  | num (z : Int)
  | bytes (bs : List Byte)
  | layout (l : Layout)
  deriving DecidableEq, Repr

/-- An instruction as the block is handed it: an operation code with its operands (R70), or a frame of the wire in one
of the two directions (R60: the direction, never a byte, tells a request from a reply). -/
inductive Encoded where
  | operation (code : Byte) (operands : List Operand)
  | requestFrame (bytes : List Byte)
  | replyFrame (bytes : List Byte)
  deriving DecidableEq, Repr

/-- The layout provider's answer to `lookup(model_name)` (R171, R208). -/
inductive LookupAnswer where
  | found (layout : Layout)
  | unknownModel
  deriving DecidableEq, Repr

/-- What the caller can hand the block. -/
inductive Input where
  /-- An encoded instruction. -/
  | instr (e : Encoded)
  /-- DOC0's build contract with its optional payload (R100, R107). What a Write with the payload omitted builds is log
  entry 14's. -/
  | buildRequest (dest source : Byte) (func : Func) (start : Nat) (payload : Option (List Byte))
  /-- Session construction (R171): the Transport Adapter instance by its number, the provider's answer for a model name,
  the bus address (an integer, unchecked) and the session's parameters. -/
  | construct (adapter : Nat) (model : Label) (answer : LookupAnswer) (busAddr : Int) (maxReply : ReplySize)
      (attrs : SessionAttrs)
  deriving DecidableEq, Repr

/-- How the caller names a session: by its adapter and its bus address on it (R220, log entry 13). -/
structure SessionName where
  adapter : Nat
  busAddr : Int
  deriving DecidableEq, Repr

/-- One input of the caller, and the session it is for when it is not the active one (R220, log entry 13). -/
structure Issue where
  session : Option SessionName
  input : Input
  deriving DecidableEq, Repr

/-- Why the operation interface refuses an encoded instruction (R71, R150, R211): each is a `CommandFault`, carrying the
code or the operand (R201). -/
inductive Reject where
  /-- A reserved operation code (R71). -/
  | reservedCode (code : Byte)
  /-- The wrong number of operands, or one of the wrong kind (R71). -/
  | operandKind (code : Byte)
  /-- A number outside its operand's type: a nibble above 15, a byte above 255, a negative natural (R71). -/
  | operandRange (code : Byte) (value : Int)
  /-- A layout with a repeated index (R150). -/
  | repeatedIndex (layout : Layout)
  /-- A byte sequence too short for its frame format (R51, R52). -/
  | frameTooShort (frame : List Byte)
  /-- A request whose function byte is neither Read nor Write, or a reply of no kind (R60). -/
  | noFrameKind (frame : List Byte)
  /-- A request whose `total_len` is not its length (R51, R60). -/
  | requestTotalLen (frame : List Byte)
  /-- A request whose length field is not what R56 says (R60). -/
  | requestLengthField (frame : List Byte)
  /-- A request whose trailer is not the CRC of what precedes it (R58, R60). -/
  | requestTrailer (frame : List Byte)
  deriving DecidableEq, Repr

/-- The causes of a BuildFault (`spec/60_exceptions.md` R209). -/
inductive BuildCause where
  | startRegisterTooWide
  | payloadTooLong
  | payloadOnRead
  | valueTooWide
  deriving DecidableEq, Repr

end Sys2Proof
end

