-- ==== Sys2Proof/Machine/Parameters.lean ====
section
/-! DEFINITION. The constants `spec/00_scope.md` R7 fixes, and the defaults it marks for the parameters it leaves open. -/

namespace Sys2Proof

/-- `MASTER_ADDR` (R7). -/
def masterAddr : Byte := 129

/-- `ALT_MASTER_ADDR` (R7). -/
def altMasterAddr : Byte := 160

/-- `THERM_MIN` and `THERM_MAX`: a thermostat address lies in [1, 32] (R7, R54). -/
def isThermostatAddr (a : Byte) : Bool := 1 ≤ a.toNat && a.toNat ≤ 32

/-- `FUNC_READ` and `FUNC_WRITE` (R7, R53). -/
def Func.code : Func → Byte
  | .read => 0x00
  | .write => 0x01

/-- `MAX_PAYLOAD` (R7, R105, D5). -/
def maxPayload : Nat := 245

/-- `WRITE_ACK_LEN` (R7). -/
def writeAckLen : Nat := 7

/-- `IDX_TARGET` (R7, R177). -/
def idxTarget : Nat := 18

/-- `MODE_LABEL[0..1]` (R7, R179): the label of a mode code, if it has one. -/
def modeLabel (c : Byte) : Option Label :=
  if c = 0 then some "5/2 day" else if c = 1 then some "7 day" else none

/-- The read length of a session in bytes (R7, D16). -/
def ReplySize.toNat : ReplySize → Nat
  | .fiveTwoDay => 75
  | .sevenDay => 159

/-- The default tables, sentinel and ranges of R7. The two tables and the sentinel are general knowledge, not DOC0's
(D3, D4, U1, U2; log entry 2). -/
def defaultParams : Params where
  lookupHigh := #v[0x00, 0x10, 0x20, 0x30, 0x40, 0x50, 0x60, 0x70, 0x81, 0x91, 0xA1, 0xB1, 0xC1, 0xD1, 0xE1, 0xF1]
  lookupLow := #v[0x00, 0x21, 0x42, 0x63, 0x84, 0xA5, 0xC6, 0xE7, 0x08, 0x29, 0x4A, 0x6B, 0x8C, 0xAD, 0xCE, 0xEF]
  lenAll := 0xFFFF
  rangeTarget := ⟨5, 35⟩
  rangeFrost := ⟨7, 17⟩
  rangeFloorMax := ⟨20, 45⟩

/-- DESIGN CHOICE (log entry 3): the open session parameters of the machine at reset. -/
def exampleAttrs : SessionAttrs where
  idxFloorMax := 0
  idxMode := 0
  idxSensor := 0
  regTarget := 18
  regFrost := 0
  regFloorMax := 0
  sensorLabel := #v["", "", "", "", ""]

/-- DESIGN CHOICE (log entry 3): the layout of the session at reset, the spec's own example (P4 of
`spec/95_test_vectors.md`, U19). -/
def exampleLayout : Layout := ⟨9, [⟨18, "target temperature"⟩]⟩

end Sys2Proof
end

