-- ==== Sys2Proof/Machine/Crc.lean ====
section
/-! DEFINITION. The arithmetic of the Checksum Engine (`spec/40_crc.md` R80 to R86), as functions of the parameters. -/

namespace Sys2Proof

/-- The register pair `crc_low`, `crc_high` (`spec/10_state.md` R11). -/
structure Accumulator where
  low : Byte
  high : Byte
  deriving DecidableEq, Repr

/-- The seed 0xFF, 0xFF of every computation (R81). -/
def crcSeed : Accumulator := ⟨0xFF, 0xFF⟩

/-- `ROM_H(t) = LOOKUP_HIGH[t]` (R8, R39). -/
def Params.romHigh (p : Params) (t : Nibble) : Byte := p.lookupHigh.get t.toFin

/-- `ROM_L(t) = LOOKUP_LOW[t]` (R8, R39). -/
def Params.romLow (p : Params) (t : Nibble) : Byte := p.lookupLow.get t.toFin

/-- The three steps of CRC.NIB (R82). -/
def crcNibble (p : Params) (v : Nibble) (a : Accumulator) : Accumulator :=
  let t := highNibble a.high ^^^ v
  let h := (a.high <<< 4) ||| (a.low >>> 4)
  let l := a.low <<< 4
  { low := l ^^^ p.romLow t, high := h ^^^ p.romHigh t }

/-- CRC.BYTE: the high nibble, then the low nibble (R83). -/
def crcByte (p : Params) (b : Byte) (a : Accumulator) : Accumulator :=
  crcNibble p (lowNibble b) (crcNibble p (highNibble b) a)

/-- The bytes of a sequence in increasing index (R85), from a given accumulator. -/
def crcFrom (p : Params) (a : Accumulator) : List Byte → Accumulator
  | [] => a
  | b :: bs => crcFrom p (crcByte p b a) bs

/-- `CRC.RUN(bytes)` (R85): the fold from the seed. -/
def crcRun (p : Params) (bytes : List Byte) : Accumulator := crcFrom p crcSeed bytes

/-- The trailer of a computation, low byte first (R84, R58). -/
def Accumulator.trailer (a : Accumulator) : List Byte := [a.low, a.high]

/-- `CRC.VFY(bytes, trailer)` (R86): a trailer that is not two bytes long compares unequal (D8). -/
def crcVerify (p : Params) (bytes trailer : List Byte) : Bool :=
  match trailer with
  | [l, h] => l == (crcRun p bytes).low && h == (crcRun p bytes).high
  | _ => false

end Sys2Proof
end

