-- ==== Sys2Proof/Machine/Build.lean ====
section
/-! DEFINITION. The bytes of the two frame formats (`spec/30_encoding.md` R51, R52) and the request builder
(`spec/41_frame_build.md` R100 to R107), as functions of the parameters. -/

namespace Sys2Proof

/-- The 8-byte header of a request (R51, R36). -/
def requestHeader (dest totalLen source : Byte) (func : Func) (start len : Half) : List Byte :=
  [dest, totalLen, source, func.code, lo8 start, hi8 start, lo8 len, hi8 len]

/-- A frame body with its CRC trailer appended, low byte first (R58). -/
def withTrailer (p : Params) (body : List Byte) : List Byte := body ++ (crcRun p body).trailer

/-- The Read request of R101: 10 bytes, the whole-block sentinel in the length field. -/
def readFrame (p : Params) (dest source : Byte) (start : Half) : List Byte :=
  withTrailer p (requestHeader dest 10 source .read start p.lenAll)

/-- The Write request of R103. -/
def writeFrame (p : Params) (dest source : Byte) (start : Half) (payload : List Byte) : List Byte :=
  withTrailer p
    (requestHeader dest (BitVec.ofNat 8 (10 + payload.length)) source .write start (BitVec.ofNat 16 payload.length)
      ++ payload)

/-- REQ.READ as a function: the frame, or the BuildFault of R104. -/
def buildRead (p : Params) (dest source : Byte) (start : Nat) : Except BuildCause (List Byte) :=
  if 0xFFFF < start then .error .startRegisterTooWide
  else .ok (readFrame p dest source (BitVec.ofNat 16 start))

/-- REQ.WRITE as a function: the frame, or the BuildFault of R104 (tested first) or R105. -/
def buildWrite (p : Params) (dest source : Byte) (start : Nat) (payload : List Byte) :
    Except BuildCause (List Byte) :=
  if 0xFFFF < start then .error .startRegisterTooWide
  else if maxPayload < payload.length then .error .payloadTooLong
  else .ok (writeFrame p dest source (BitVec.ofNat 16 start) payload)

/-- DOC0's `build_request` with its optional payload (R100): a Read given a non-empty payload fails (R107; the order of the
two tests on a Read is log entry 11). DESIGN CHOICE (log entry 14): an omitted payload is the empty one. -/
def buildRequest (p : Params) (dest source : Byte) (func : Func) (start : Nat) (payload : Option (List Byte)) :
    Except BuildCause (List Byte) :=
  match func with
  | .read => if payload.getD [] = [] then buildRead p dest source start else .error .payloadOnRead
  | .write => buildWrite p dest source start (payload.getD [])

/-- The bytes of a reply frame (R52): header, payload, trailer. -/
def replyFrameBytes (dest lenLow lenHigh source : Byte) (func : Func) (payload : List Byte) (crcLow crcHigh : Byte) :
    List Byte :=
  [dest, lenLow, lenHigh, source, func.code] ++ payload ++ [crcLow, crcHigh]

/-- The bytes of a write acknowledgement (R60): a 7-byte reply that declares 7 bytes. -/
def writeAckBytes (dest source crcLow crcHigh : Byte) : List Byte :=
  replyFrameBytes dest 0x07 0x00 source .write [] crcLow crcHigh

end Sys2Proof
end

