-- ==== Sys2Proof/WellFormed.lean ====
section
/-! DEFINITION. When an instruction is one the block can be handed: the checks that the operand types of
`Sys2Proof/Syntax.lean` do not already make (`spec/43_field_decode.md` R150, `spec/30_encoding.md` R57, R60). -/

namespace Sys2Proof

/-- The field indices of a layout in declared order. -/
def Layout.indices (l : Layout) : List Nat := l.fields.map (·.index)

/-- A layout is well formed when its indices are pairwise distinct (R150, D11). -/
def Layout.wf (l : Layout) : Bool := decide l.indices.Nodup

/-- Well-formedness of an instruction: a distinct-index layout (R150) and a request payload that fits `total_len`
(R57, R105: at most 245 bytes). Every other operand is well formed by its type. -/
def Instr.wf : Instr → Bool
  | .crcInit => true
  | .crcNib _ => true
  | .crcByte _ => true
  | .crcRd => true
  | .crcRun _ => true
  | .crcVfy _ _ => true
  | .reqRead _ _ _ => true
  | .reqWrite _ _ _ _ => true
  | .rpyVal _ _ _ _ => true
  | .fldGet _ _ _ => true
  | .fldDec _ layout => layout.wf
  | .sesRefresh => true
  | .sesWrreg _ _ => true
  | .sesGet _ => true
  | .sesGetTarget => true
  | .sesGetFloormax => true
  | .sesGetMode => true
  | .sesGetSensor => true
  | .sesSetTarget _ => true
  | .sesSetFrost _ => true
  | .sesSetFloormax _ => true
  | .reqframeRead _ _ _ => true
  | .reqframeWrite _ _ _ payload => decide (payload.length ≤ 245)
  | .rpyframeRead _ _ _ _ _ _ _ => true
  | .rpyframeWriteack _ _ _ _ => true

end Sys2Proof
end

