-- ==== Sys2Proof/Decode.lean ====
section
/-! DEFINITION. The decoder, total on every encoded form and refusing by name (`spec/30_encoding.md` R60, R61, R70,
R71), the encoder, written from the same tables, and the reading of one word of `spec/opcode_table.json`. -/

namespace Sys2Proof

/-- A natural-number operand (R8: a negative number is no natural). -/
def asNat (code : Byte) : Operand → Except Reject Nat
  | .num z => if 0 ≤ z then .ok z.toNat else .error (.operandRange code z)
  | _ => .error (.operandKind code)

/-- A nibble operand, 0 to 15 (R71). -/
def asNibble (code : Byte) : Operand → Except Reject Nibble
  | .num z => if 0 ≤ z ∧ z ≤ 15 then .ok (BitVec.ofNat 4 z.toNat) else .error (.operandRange code z)
  | _ => .error (.operandKind code)

/-- A byte operand, 0 to 255 (R71). -/
def asByte (code : Byte) : Operand → Except Reject Byte
  | .num z =>
    match byteOf z with
    | some b => .ok b
    | none => .error (.operandRange code z)
  | _ => .error (.operandKind code)

/-- An integer operand. -/
def asInt (code : Byte) : Operand → Except Reject Int
  | .num z => .ok z
  | _ => .error (.operandKind code)

/-- The `function_expected` operand: Read (0) or Write (1) (R70, R120). -/
def asFunc (code : Byte) : Operand → Except Reject Func
  | .num z =>
    if z = 0 then .ok .read else if z = 1 then .ok .write else .error (.operandRange code z)
  | _ => .error (.operandKind code)

/-- A byte-sequence operand of any length. -/
def asBytes (code : Byte) : Operand → Except Reject (List Byte)
  | .bytes bs => .ok bs
  | _ => .error (.operandKind code)

/-- A layout operand; a repeated index is refused (R150, R211). -/
def asLayout (code : Byte) : Operand → Except Reject Layout
  | .layout l => if l.wf then .ok l else .error (.repeatedIndex l)
  | _ => .error (.operandKind code)

/-- An operation without operands. -/
def noOperands (code : Byte) (i : Instr) : List Operand → Except Reject Instr
  | [] => .ok i
  | _ => .error (.operandKind code)

/-- An operation with one operand. -/
def oneOperand {α : Type} (code : Byte) (f : Operand → Except Reject α) (k : α → Instr) :
    List Operand → Except Reject Instr
  | [a] => (f a).map k
  | _ => .error (.operandKind code)

/-- The operation codes of R70; every other code is reserved (R71). DESIGN CHOICE (log entry 15): a reserved code is refused
whatever its operands, the number of operands is checked before any of them, and of several operands outside their types
the CommandFault names the first from the left. -/
def decodeOperation (code : Byte) (ops : List Operand) : Except Reject Instr :=
  match code.toNat with
  | 0x00 => noOperands code .crcInit ops
  | 0x01 => oneOperand code (asNibble code) .crcNib ops
  | 0x02 => oneOperand code (asByte code) .crcByte ops
  | 0x03 => noOperands code .crcRd ops
  | 0x04 => oneOperand code (asBytes code) .crcRun ops
  | 0x05 =>
    match ops with
    | [m, t] => do
      let m ← asBytes code m
      let t ← asBytes code t
      return .crcVfy m t
    | _ => .error (.operandKind code)
  | 0x10 =>
    match ops with
    | [d, s, r] => do
      let d ← asByte code d
      let s ← asByte code s
      let r ← asNat code r
      return .reqRead d s r
    | _ => .error (.operandKind code)
  | 0x11 =>
    match ops with
    | [d, s, r, pl] => do
      let d ← asByte code d
      let s ← asByte code s
      let r ← asNat code r
      let pl ← asBytes code pl
      return .reqWrite d s r pl
    | _ => .error (.operandKind code)
  | 0x20 =>
    match ops with
    | [d, s, f, raw] => do
      let d ← asByte code d
      let s ← asByte code s
      let f ← asFunc code f
      let raw ← asBytes code raw
      return .rpyVal d s f raw
    | _ => .error (.operandKind code)
  | 0x30 =>
    match ops with
    | [raw, i, o] => do
      let raw ← asBytes code raw
      let i ← asNat code i
      let o ← asInt code o
      return .fldGet raw i o
    | _ => .error (.operandKind code)
  | 0x31 =>
    match ops with
    | [raw, l] => do
      let raw ← asBytes code raw
      let l ← asLayout code l
      return .fldDec raw l
    | _ => .error (.operandKind code)
  | 0x40 => noOperands code .sesRefresh ops
  | 0x41 =>
    match ops with
    | [r, v] => do
      let r ← asNat code r
      let v ← asNat code v
      return .sesWrreg r v
    | _ => .error (.operandKind code)
  | 0x42 => oneOperand code (asNat code) .sesGet ops
  | 0x43 => noOperands code .sesGetTarget ops
  | 0x44 => noOperands code .sesGetFloormax ops
  | 0x45 => noOperands code .sesGetMode ops
  | 0x46 => noOperands code .sesGetSensor ops
  | 0x48 => oneOperand code (asInt code) .sesSetTarget ops
  | 0x49 => oneOperand code (asInt code) .sesSetFrost ops
  | 0x4A => oneOperand code (asInt code) .sesSetFloormax ops
  | _ => .error (.reservedCode code)

/-- A byte sequence without its last two bytes (DOC0's `raw_bytes[:-2]`, R8). -/
def bodyOf (f : List Byte) : List Byte := f.take (f.length - 2)

/-- The last two bytes of a byte sequence (DOC0's `raw_bytes[-2:]`, R8), fewer when it is shorter. -/
def trailerOf (f : List Byte) : List Byte := f.drop (f.length - 2)

/-- A frame in the request direction (R51, R60): the kind its function byte names, provided every constraint the
opcode table lists for that kind holds. -/
def decodeRequest (p : Params) (f : List Byte) : Except Reject Instr :=
  match f with
  | dest :: totalLen :: source :: func :: startLow :: startHigh :: lenLow :: lenHigh :: rest =>
    let start := le16 startLow startHigh
    let len := le16 lenLow lenHigh
    if f.length < 10 then .error (.frameTooShort f)
    else if totalLen.toNat ≠ f.length then .error (.requestTotalLen f)
    else if !crcVerify p (bodyOf f) (trailerOf f) then .error (.requestTrailer f)
    else if func = Func.read.code then
      if f.length ≠ 10 then .error (.requestTotalLen f)
      else if len ≠ p.lenAll then .error (.requestLengthField f)
      else .ok (.reqframeRead dest source start)
    else if func = Func.write.code then
      if len.toNat ≠ f.length - 10 then .error (.requestLengthField f)
      else .ok (.reqframeWrite dest source start (bodyOf rest))
    else .error (.noFrameKind f)
  | _ => .error (.frameTooShort f)

/-- A frame in the reply direction (R52, R60): function byte 0 is RPYFRAME.READ, function byte 1 in a 7-byte frame that
declares 7 is RPYFRAME.WRITEACK, anything else is of no kind. Validity is not decided here but by RPY.VAL. -/
def decodeReply (f : List Byte) : Except Reject Instr :=
  match f with
  | dest :: lenLow :: lenHigh :: source :: func :: rest =>
    match trailerOf rest with
    | [crcLow, crcHigh] =>
      if func = Func.read.code then
        .ok (.rpyframeRead dest lenLow lenHigh source (bodyOf rest) crcLow crcHigh)
      else if func = Func.write.code ∧ lenLow = 0x07 ∧ lenHigh = 0x00 ∧ rest.length = 2 then
        .ok (.rpyframeWriteack dest source crcLow crcHigh)
      else .error (.noFrameKind f)
    | _ => .error (.frameTooShort f)
  | _ => .error (.frameTooShort f)

/-- The decoder: total, refusing by name. -/
def decode (p : Params) : Encoded → Except Reject Instr
  | .operation code ops => decodeOperation code ops
  | .requestFrame f => decodeRequest p f
  | .replyFrame f => decodeReply f

/-- A nibble, a byte or a natural number as an operand value. -/
def natOperand (n : Nat) : Operand := .num n

/-- The encoder (R70 for the operations, R51 and R52 for the frames). -/
def encode (p : Params) : Instr → Encoded
  | .crcInit => .operation 0x00 []
  | .crcNib v => .operation 0x01 [natOperand v.toNat]
  | .crcByte b => .operation 0x02 [natOperand b.toNat]
  | .crcRd => .operation 0x03 []
  | .crcRun m => .operation 0x04 [.bytes m]
  | .crcVfy m t => .operation 0x05 [.bytes m, .bytes t]
  | .reqRead d s r => .operation 0x10 [natOperand d.toNat, natOperand s.toNat, natOperand r]
  | .reqWrite d s r pl => .operation 0x11 [natOperand d.toNat, natOperand s.toNat, natOperand r, .bytes pl]
  | .rpyVal d s f raw =>
    .operation 0x20 [natOperand d.toNat, natOperand s.toNat, natOperand f.code.toNat, .bytes raw]
  | .fldGet raw i o => .operation 0x30 [.bytes raw, natOperand i, .num o]
  | .fldDec raw l => .operation 0x31 [.bytes raw, .layout l]
  | .sesRefresh => .operation 0x40 []
  | .sesWrreg r v => .operation 0x41 [natOperand r, natOperand v]
  | .sesGet i => .operation 0x42 [natOperand i]
  | .sesGetTarget => .operation 0x43 []
  | .sesGetFloormax => .operation 0x44 []
  | .sesGetMode => .operation 0x45 []
  | .sesGetSensor => .operation 0x46 []
  | .sesSetTarget t => .operation 0x48 [.num t]
  | .sesSetFrost t => .operation 0x49 [.num t]
  | .sesSetFloormax t => .operation 0x4A [.num t]
  | .reqframeRead d s r => .requestFrame (readFrame p d s r)
  | .reqframeWrite d s r pl => .requestFrame (writeFrame p d s r pl)
  | .rpyframeRead d ll lh s pl cl ch => .replyFrame (replyFrameBytes d ll lh s .read pl cl ch)
  | .rpyframeWriteack d s cl ch => .replyFrame (writeAckBytes d s cl ch)

/-- The zero operands of an operation code, as many and of the kinds R70 gives it (log entry 9). -/
def zeroOperands (code : Byte) : List Operand :=
  match code.toNat with
  | 0x01 | 0x02 | 0x42 | 0x48 | 0x49 | 0x4A => [.num 0]
  | 0x04 => [.bytes []]
  | 0x05 => [.bytes [], .bytes []]
  | 0x10 => [.num 0, .num 0, .num 0]
  | 0x11 => [.num 0, .num 0, .num 0, .bytes []]
  | 0x20 => [.num 0, .num 0, .num 0, .bytes []]
  | 0x30 => [.bytes [], .num 0, .num 0]
  | 0x31 => [.bytes [], .layout ⟨0, []⟩]
  | 0x41 => [.num 0, .num 0]
  | _ => []

/-- The first `n` bytes of a number, least significant first (log entry 9). -/
def wordBytes : Nat → Nat → List Byte
  | 0, _ => []
  | n + 1, w => BitVec.ofNat 8 w :: wordBytes n (w / 256)

/-- One word of the opcode table as the block is handed it: 8 bits are an operation code; a reply row's header has 40
bits (7 bytes with a zero trailer at least) and a request row's has 64 (as many bytes as `total_len` declares, 10 at
least), the bytes above the given ones being zero. DESIGN CHOICE (log entry 9): byte 0 of a frame row is the LEAST
significant byte of the word, byte 1 the next, and so on; R61's `match` and `mask` strings write byte 0 leftmost, and the
spec gives no number to a row of several bytes. -/
def tableEncoded (nbits w : Nat) : Encoded :=
  if nbits ≤ 8 then .operation (BitVec.ofNat 8 w) (zeroOperands (BitVec.ofNat 8 w))
  else if nbits ≤ 56 then .replyFrame (wordBytes 7 (w % 2 ^ nbits))
  else .requestFrame (wordBytes (max 10 (w / 256 % 256)) (w % 2 ^ nbits))

/-- The instruction the decoder reads from a word of the opcode table, with the default parameters of R7. -/
def decodeTableWord (nbits w : Nat) : Option Instr := (decode defaultParams (tableEncoded nbits w)).toOption

end Sys2Proof
end

