-- ==== Sys2Proof/Machine/State.lean ====
section
/-! DEFINITION. The machine's state as plain data (`spec/10_state.md` R10 to R23), the values an operation answers with
(`spec/30_encoding.md` R70, `spec/60_exceptions.md` R200, R201), the reasons a step can stop, and the state after
reset. -/

namespace Sys2Proof.Machine

/-- One entry of the Field Table: index, label and the one byte read (R17). -/
structure FieldEntry where
  index : Nat
  label : Label
  value : Byte
  deriving DecidableEq, Repr

/-- The Field Table: an ordered finite map keyed by field index (R17); `FieldTable.wf` is its canonical form. -/
abbrev FieldTable := List FieldEntry

/-- The keys of the table are pairwise distinct (R17). -/
def FieldTable.wf (t : FieldTable) : Bool := decide (t.map (·.index)).Nodup

/-- The record RPY.VAL answers with (R14, R15, R132): the frame, the header fields whose bytes exist, and `VSTAT`. -/
structure ValidationRecord where
  raw : List Byte
  destAddr : Option Byte
  frameLen : Option Half
  sourceAddr : Option Byte
  funcCode : Option Byte
  /-- Bit `k-1` is rule V`k` (R14, D9). -/
  vstat : BitVec 9
  deriving DecidableEq, Repr

/-- `valid = (VSTAT == 0)` (R14). -/
def ValidationRecord.valid (v : ValidationRecord) : Bool := v.vstat == 0

/-- The three setters (R181), as a RangeFault names them. -/
inductive Setter where
  | target
  | frost
  | floorMax
  deriving DecidableEq, Repr

/-- The faults of the spec that an operation answers with as a RESULT VALUE (R200, R201): no trap, the machine goes on.
CommandFault (class 10) is no result but a refusal (R211): `Reject`, whose code is `commandFaultCode`. -/
inductive FaultValue where
  | checksum (v : ValidationRecord)
  | validation (v : ValidationRecord)
  | decode (index : Nat)
  | staleData (index : Nat)
  | range (setter : Setter) (value : Int)
  | io (info : Label)
  | unknownModel (name : Label)
  | build (cause : BuildCause)
  | enum (index : Nat) (value : Byte)
  | unwritten
  deriving DecidableEq, Repr

/-- The class codes of R201, but for CommandFault's (`commandFaultCode`). -/
def FaultValue.code : FaultValue → Nat
  | .checksum _ => 1
  | .validation _ => 2
  | .decode _ => 3
  | .staleData _ => 4
  | .range _ _ => 5
  | .io _ => 6
  | .unknownModel _ => 7
  | .build _ => 8
  | .enum _ _ => 9
  | .unwritten => 11

/-- The class code of CommandFault (R201, R211), whatever its cause. -/
def commandFaultCode : Reject → Nat
  | .reservedCode _ => 10
  | .operandKind _ => 10
  | .operandRange _ _ => 10
  | .repeatedIndex _ => 10
  | .frameTooShort _ => 10
  | .noFrameKind _ => 10
  | .requestTotalLen _ => 10
  | .requestLengthField _ => 10
  | .requestTrailer _ => 10

/-- What an operation hands back to the caller (R70). -/
inductive Result where
  /-- An operation without a result (CRC.INIT, CRC.NIB, CRC.BYTE). -/
  | done
  /-- `(low_byte, high_byte)` (R84, R85). -/
  | crc (low high : Byte)
  /-- The boolean of CRC.VFY (R86). -/
  | verdict (matched : Bool)
  /-- A built request frame (R101, R103). -/
  | frame (bytes : List Byte)
  /-- The record of RPY.VAL (R120). -/
  | validation (record : ValidationRecord)
  /-- One byte (R151, R177, R178). -/
  | byte (value : Byte)
  /-- The table and the per-field faults of FLD.DEC (R152). -/
  | table (entries : FieldTable) (faults : List FaultValue)
  /-- `Ok`, with the DecodeFaults reported beside it (R173). -/
  | ok (faults : List FaultValue)
  /-- `{label, value}` (R176). -/
  | entry (label : Label) (value : Byte)
  /-- A label (R179, R180). -/
  | label (text : Label)
  /-- A fault (R200). -/
  | fault (f : FaultValue)
  deriving DecidableEq, Repr

/-- One Device Session (R10, R170): its Field Table and its attributes, constant for the life of the session. -/
structure Session where
  /-- The Transport Adapter instance passed in at construction (R171), by its number. -/
  adapter : Nat
  /-- `bus_addr`, an integer that construction does not check (R10, R171; log entry 4). -/
  busAddr : Int
  /-- `layout` (R10). -/
  layout : Layout
  /-- `max_reply` (R10, D16). -/
  maxReply : ReplySize
  /-- The open session parameters (R7, D17). -/
  attrs : SessionAttrs
  /-- `FT` (R10, R17). -/
  table : FieldTable
  deriving DecidableEq, Repr

/-- A transport call the block makes (R172, R186). -/
inductive TransportCall where
  | write (frame : List Byte)
  | read (maxLen : Nat)
  deriving DecidableEq, Repr

/-- What stands in the transport's script for one exchange: an answer, or an adapter that never answers (R246, U8). -/
inductive Scripted where
  | answer (a : TransportAnswer)
  | silent
  deriving DecidableEq, Repr

/-- One Transport Adapter as the block sees it (R172): the answers it will give, how many free answers it has given once
the script was used up, and every call the block has made on it, oldest first (log entries 6 and 7). -/
structure Transport where
  script : List Scripted
  drawn : Nat
  calls : List TransportCall
  deriving DecidableEq, Repr

/-- Why a step stops the machine. -/
inductive Fault where
  /-- The Transport Adapter never answers an exchange: raised by SES.REFRESH, SES.WRREG and the setters when the script
  says so (R246: "in a model this is a hang"). SAFE: the model stops where the block waits for ever. -/
  | transportHang
  deriving DecidableEq, Repr

/-- Why a step refuses an input. -/
inductive Refusal where
  /-- An instruction without a meaning: raised by no arm of exec. SAFE. -/
  | notModelled (mnemonic : String)
  /-- CommandFault (R211, class 10): raised by the decoder for a reserved code, an operand outside its type or bytes of no
  frame kind, by FLD.DEC and session construction for a layout with a repeated index, and by SES.REFRESH, SES.WRREG, the
  setters and the reply frame kinds in a session whose bus_addr is no byte, and so no operand of the unit operation they
  make (R106, R71; log entry 4). SAFE: the spec itself calls it a refusal. -/
  | command (r : Reject)
  /-- The caller names a session that does not exist: raised when an input is taken (R220, log entry 13). SAFE. -/
  | noSuchSession (name : SessionName)
  deriving DecidableEq, Repr

/-- The whole state (INVENTORY.md, '## State'). -/
structure State where
  /-- `crc_low`, `crc_high`, or unwritten (R10, R11, R12). -/
  acc : Option Accumulator
  /-- The active Device Session (R10, R170). -/
  session : Session
  /-- The other Device Sessions (R220). -/
  others : List Session
  /-- The result of the last operation (R14, R15, R19, R200; log entry 6). -/
  result : Option Result
  /-- The Transport Adapters, by number (R171, R172, R220): a number not listed is an adapter nothing has used yet. -/
  adapters : List (Nat × Transport)
  /-- The parameters of the block, which no operation writes (R7, R18, R22; log entry 1). -/
  params : Params
  /-- The caller's inputs not yet taken, oldest first (R6, R41; log entry 5). -/
  pending : List Issue
  deriving DecidableEq, Repr

/-- A session right after construction: its Field Table is empty (R23, R171). -/
def Session.new (adapter : Nat) (busAddr : Int) (layout : Layout) (maxReply : ReplySize) (attrs : SessionAttrs) : Session :=
  { adapter, busAddr, layout, maxReply, attrs, table := [] }

/-- The machine after reset (R23, R230): the accumulator unwritten and the Field Table empty, as the spec says; the
session's construction values are log entry 3's, the parameters the defaults of R7 (log entry 2). -/
def State.reset : State where
  acc := none
  session := Session.new 0 1 exampleLayout .fiveTwoDay exampleAttrs
  others := []
  result := none
  adapters := []
  params := defaultParams
  pending := []

end Sys2Proof.Machine
end

