-- ==== Sys2Proof/Machine/Operands.lean ====
section
/-! DEFINITION. Reading a frame's bytes (`spec/00_scope.md` R8, `spec/20_memory.md` R35), the field position
(`spec/43_field_decode.md` R151), the layout walk of FLD.DEC (R152) and the lookup of a field index (R39). -/

namespace Sys2Proof.Machine

/-- `MemRead(s, i)`: the byte at index `i`, absent out of bounds, never wrapped (R8, R35, D10). -/
def memRead (s : List Byte) (i : Int) : Option Byte := if i < 0 then none else s[i.toNat]?

/-- `MemRead16(s, i)`: present when both bytes are (R8, R31). -/
def memRead16 (s : List Byte) (i : Int) : Option Half :=
  match memRead s i, memRead s (i + 1) with
  | some lo, some hi => some (le16 lo hi)
  | _, _ => none

/-- The position `index + offset`, in unbounded integers (R151, R90). -/
def fieldPosition (index : Nat) (offset : Int) : Int := index + offset

/-- The byte FLD.GET reads, absent when the position is out of bounds (R151). -/
def fieldByte (raw : List Byte) (index : Nat) (offset : Int) : Option Byte :=
  memRead raw (fieldPosition index offset)

/-- The table FLD.DEC builds: the in-bounds fields in the layout's declared order (R152). -/
def decodeTable (raw : List Byte) (offset : Int) : List FieldDecl → FieldTable
  | [] => []
  | d :: ds =>
    match fieldByte raw d.index offset with
    | some v => { index := d.index, label := d.label, value := v } :: decodeTable raw offset ds
    | none => decodeTable raw offset ds

/-- The per-field faults FLD.DEC reports beside the table, in the layout's declared order (R152). -/
def decodeFaults (raw : List Byte) (offset : Int) : List FieldDecl → List FaultValue
  | [] => []
  | d :: ds =>
    match fieldByte raw d.index offset with
    | some _ => decodeFaults raw offset ds
    | none => .decode d.index :: decodeFaults raw offset ds

/-- `FT[index]`, absent when `index` is not a key (R39, R176). -/
def FieldTable.lookup (t : FieldTable) (index : Nat) : Option FieldEntry := t.find? (fun e => e.index == index)

end Sys2Proof.Machine
end

