-- ==== Sys2Proof/Machine/Flags.lean ====
section
/-! DEFINITION. The status of the block: the nine validation rules, each as the condition under which it is VIOLATED
(`spec/42_frame_validate.md` R122 to R131), and the 9-bit `VSTAT` and record they make (`spec/10_state.md` R14, R15). -/

namespace Sys2Proof.Machine

/-- V1, checksum (R123). -/
def violatesV1 (p : Params) (raw : List Byte) : Bool :=
  decide (raw.length < 2) || !crcVerify p (bodyOf raw) (trailerOf raw)

/-- V2, destination is a master value (R124). -/
def violatesV2 (raw : List Byte) : Bool :=
  match memRead raw 0 with
  | some d => d != masterAddr && d != altMasterAddr
  | none => true

/-- V3, destination is the expected one (R125, C1). -/
def violatesV3 (dest : Byte) (raw : List Byte) : Bool :=
  match memRead raw 0 with
  | some d => d != dest
  | none => true

/-- V4, source is a thermostat address (R126). -/
def violatesV4 (raw : List Byte) : Bool :=
  match memRead raw 3 with
  | some s => !isThermostatAddr s
  | none => true

/-- V5, source is the expected one (R127). -/
def violatesV5 (source : Byte) (raw : List Byte) : Bool :=
  match memRead raw 3 with
  | some s => s != source
  | none => true

/-- V6, function code is known (R128). -/
def violatesV6 (raw : List Byte) : Bool :=
  match memRead raw 4 with
  | some c => c != Func.read.code && c != Func.write.code
  | none => true

/-- V7, function code is the expected one (R129). -/
def violatesV7 (func : Func) (raw : List Byte) : Bool :=
  match memRead raw 4 with
  | some c => c != func.code
  | none => true

/-- V8, write acknowledgements declare 7 bytes (R130). -/
def violatesV8 (raw : List Byte) : Bool :=
  match memRead raw 4, memRead16 raw 1 with
  | some c, some len => c == Func.write.code && len.toNat != writeAckLen
  | _, _ => true

/-- V9, declared length is the actual length (R131). -/
def violatesV9 (raw : List Byte) : Bool :=
  match memRead16 raw 1 with
  | some len => len.toNat != raw.length
  | none => true

/-- `VSTAT`: bit `k-1` is rule V`k` (R14); every rule is evaluated (R132). -/
def vstatOf (p : Params) (dest source : Byte) (func : Func) (raw : List Byte) : BitVec 9 :=
  BitVec.ofBoolListLE
    [violatesV1 p raw, violatesV2 raw, violatesV3 dest raw, violatesV4 raw, violatesV5 source raw,
      violatesV6 raw, violatesV7 func raw, violatesV8 raw, violatesV9 raw]

/-- The record of RPY.VAL (R120, R132). -/
def validate (p : Params) (dest source : Byte) (func : Func) (raw : List Byte) : ValidationRecord where
  raw := raw
  destAddr := memRead raw 0
  frameLen := memRead16 raw 1
  sourceAddr := memRead raw 3
  funcCode := memRead raw 4
  vstat := vstatOf p dest source func raw

/-- The fault of an exchange whose reply is not valid: ChecksumFault when V1 is violated, else ValidationFault
(R173, R202, R203, D14). -/
def replyFault (v : ValidationRecord) : FaultValue :=
  if v.vstat.getLsbD 0 then .checksum v else .validation v

end Sys2Proof.Machine
end

