-- ==== Sys2Proof/Machine/Ops.lean ====
section
/-! DEFINITION. The named operations over the state: answering the caller, raising a fault (the spec's own description of
it, `spec/60_exceptions.md` R200: a result value and nothing else), the accumulator, delivering a built frame, the
transport exchange, the reply validation, the getters' table access, and the choice of a session. -/

namespace Sys2Proof.Machine

/-- The operation ends with this result. -/
def State.answer (r : Result) (s : State) : State := { s with result := some r }

/-- RAISING A FAULT (R200): the operation ends and its result is the fault; nothing is saved, no mode or mask changes,
control goes nowhere, no persistent state is written. There is no return operation (R218). -/
def State.raise (f : FaultValue) (s : State) : State := s.answer (.fault f)

/-- Writes the accumulator; `none` makes it unwritten (R12). -/
def State.setAcc (a : Option Accumulator) (s : State) : State := { s with acc := a }

/-- Replaces the active session's Field Table in one piece (R44). -/
def State.setTable (t : FieldTable) (s : State) : State := { s with session := { s.session with table := t } }

/-- A Transport Adapter that nothing has used: what an unlisted number stands for (log entry 7). -/
def Transport.fresh : Transport := { script := [], drawn := 0, calls := [] }

/-- The Transport Adapter numbered `k`. -/
def readAdapter (k : Nat) : List (Nat × Transport) → Transport
  | [] => Transport.fresh
  | (j, t) :: rest => if j = k then t else readAdapter k rest

/-- Replaces the Transport Adapter numbered `k`, every other one staying as it is. -/
def writeAdapter (k : Nat) (t : Transport) : List (Nat × Transport) → List (Nat × Transport)
  | [] => [(k, t)]
  | (j, u) :: rest => if j = k then (k, t) :: rest else (j, u) :: writeAdapter k t rest

/-- The active session's own Transport Adapter (R171). -/
def State.transport (s : State) : Transport := readAdapter s.session.adapter s.adapters

/-- Replaces the active session's Transport Adapter. -/
def State.setTransport (t : Transport) (s : State) : State :=
  { s with adapters := writeAdapter s.session.adapter t s.adapters }

/-- The caller's inputs still to take. -/
def State.setPending (l : List Issue) (s : State) : State := { s with pending := l }

/-- Drives the accumulator by one more piece of the message (R82, R83): UnwrittenFault when it is unwritten (R212). -/
def State.feed (f : Accumulator → Accumulator) (s : State) : State :=
  match s.acc with
  | none => s.raise .unwritten
  | some a => (s.setAcc (some (f a))).answer .done

/-- Ends an operation that builds a frame (R101, R103): the frame, its CRC computation having left the accumulator
unwritten (R12, R85; log entry 10), or the BuildFault, nothing having been computed. -/
def State.deliver (r : Except BuildCause (List Byte)) (s : State) : State :=
  match r with
  | .ok f => (s.setAcc none).answer (.frame f)
  | .error c => s.raise (.build c)

/-- Ends with the validation record of a reply (R120). The CRC of V1 leaves the accumulator unwritten; a reply shorter
than its trailer has no CRC computed (R123; log entry 10). -/
def State.validateReply (dest source : Byte) (func : Func) (raw : List Byte) (s : State) : State :=
  (if 2 ≤ raw.length then s.setAcc none else s).answer (.validation (validate s.params dest source func raw))

/-- The adapter never answers the next exchange (R246). -/
def Transport.silent (t : Transport) : Bool :=
  match t.script with
  | .silent :: _ => true
  | _ => false

/-- The answer of the adapter numbered `k` to the next exchange: the script's, or a free one (R172; log entry 7). -/
def Transport.next (k : Nat) (t : Transport) : TransportAnswer :=
  match t.script with
  | .answer a :: _ => a
  | _ => Config.freeAnswer k t.drawn

/-- What the active session's adapter answers to the next exchange. -/
def State.nextAnswer (s : State) : TransportAnswer := s.transport.next s.session.adapter

/-- The transport after that exchange, `made` being the calls it consisted of. -/
def Transport.after (t : Transport) (made : List TransportCall) : Transport :=
  match t.script with
  | _ :: rest => { t with script := rest, calls := t.calls ++ made }
  | [] => { t with drawn := t.drawn + 1, calls := t.calls ++ made }

/-- One exchange on the active session's adapter (R42, R172, R175): exactly one `write` of the request and, when it
succeeds, exactly one `read` of at most `max_reply` bytes. The answer is the IoFault's information or the bytes read, at
most `max_reply` of them (log entry 7). -/
def State.exchange (request : List Byte) (s : State) : Transport × Except Label (List Byte) :=
  let maxLen := s.session.maxReply.toNat
  match s.nextAnswer with
  | .writeFault e => (s.transport.after [.write request], .error e)
  | .readFault e => (s.transport.after [.write request, .read maxLen], .error e)
  | .reply bytes => (s.transport.after [.write request, .read maxLen], .ok (bytes.take maxLen))

/-- A session operation's round trip (R173, R174) once its request is built: exchange, validate against the master
address and the session's own thermostat, and on a valid reply go on with `done`; on an IoFault or an invalid reply
raise it. The request's and the reply's CRC leave the accumulator unwritten (log entry 10). -/
def State.roundTrip (func : Func) (thermostat : Byte) (request : List Byte) (done : List Byte → State → State)
    (s : State) : State :=
  let (t, answer) := s.exchange request
  let s' := (s.setAcc none).setTransport t
  match answer with
  | .error e => s'.raise (.io e)
  | .ok raw =>
    let v := validate s.params masterAddr thermostat func raw
    if v.valid then done raw s' else s'.raise (replyFault v)

/-- The session's `bus_addr` as the operand of a unit operation with this code: a byte, or no operand of it and refused
(R106, R71, R211; log entry 4). -/
def State.withThermostat (code : Byte) (k : Byte → Host.Outcome State Fault Refusal) (s : State) :
    Host.Outcome State Fault Refusal :=
  match byteOf s.session.busAddr with
  | some a => k a
  | none => .refused (.command (.operandRange code s.session.busAddr))

/-- An exchange that ends, or the hang of an adapter that never answers (R246, U8). -/
def State.unlessSilent (s s' : State) : Host.Outcome State Fault Refusal :=
  if s.transport.silent then .fault .transportHang else .next s'

/-- SES.WRREG's steps (R174): ValueTooWide, the operand and the faults of REQ.WRITE (code 0x11), then the round trip;
`FT` is touched on no path. -/
def State.writeRegister (register value : Nat) (s : State) : Host.Outcome State Fault Refusal :=
  if 255 < value then .next (s.raise (.build .valueTooWide))
  else
    s.withThermostat 0x11 (fun a =>
      match buildWrite s.params a masterAddr register [BitVec.ofNat 8 value] with
      | .error c => .next (s.raise (.build c))
      | .ok request => s.unlessSilent (s.roundTrip .write a request (fun _ s' => s'.answer (.ok []))))

/-- A setter's steps (R181): RangeFault first and nothing sent, then SES.WRREG. -/
def State.setRegister (which : Setter) (r : Range) (register : Nat) (t : Int) (s : State) :
    Host.Outcome State Fault Refusal :=
  if t < r.min ∨ (r.max : Int) < t then .next (s.raise (.range which t))
  else s.writeRegister register t.toNat

/-- A getter's steps (R176): StaleDataFault when the index is no key of `FT`, else what `k` makes of the entry. -/
def State.getField (index : Nat) (k : FieldEntry → Result) (s : State) : State :=
  match FieldTable.lookup s.session.table index with
  | none => s.raise (.staleData index)
  | some e => s.answer (k e)

/-- What the caller names a session by (log entry 13). -/
def sessionName (x : Session) : SessionName := { adapter := x.adapter, busAddr := x.busAddr }

/-- The first session of this name taken out of a list, and the rest in order. -/
def takeSession (n : SessionName) : List Session → Option (Session × List Session)
  | [] => none
  | x :: xs =>
    if sessionName x = n then some (x, xs)
    else
      match takeSession n xs with
      | none => none
      | some (y, ys) => some (y, x :: ys)

/-- Makes the session of this name the active one, if there is one (R220, log entry 13). -/
def State.select (n : SessionName) (s : State) : Option State :=
  if sessionName s.session = n then some s
  else
    match takeSession n s.others with
    | none => none
    | some (y, ys) => some { s with session := y, others := s.session :: ys }

/-- Session construction (R171, R232): the provider's UnknownModelFault makes no session; a layout with a repeated index is
refused (R150); otherwise the new session, on the adapter it was given and with its Field Table empty, is the active
one. -/
def State.construct (adapter : Nat) (model : Label) (found : LookupAnswer) (busAddr : Int) (maxReply : ReplySize)
    (attrs : SessionAttrs) (s : State) : Host.Outcome State Fault Refusal :=
  match found with
  | .unknownModel => .next (s.raise (.unknownModel model))
  | .found layout =>
    if layout.wf then
      .next ({ s with
        session := Session.new adapter busAddr layout maxReply attrs,
        others := s.session :: s.others }.answer (.ok []))
    else .refused (.command (.repeatedIndex layout))

end Sys2Proof.Machine
end

