-- ==== Sys2Proof/Machine/Checksum.lean ====
section
/-! DEFINITION. The meanings of the Checksum Engine's operations (`spec/40_crc.md` R81 to R86). -/

namespace Sys2Proof.Machine

/-- CRC.INIT (R81). -/
def execCrcInit (s : State) : Host.Outcome State Fault Refusal :=
  .next ((s.setAcc (some crcSeed)).answer .done)

/-- CRC.NIB (R82). -/
def execCrcNib (v : Nibble) (s : State) : Host.Outcome State Fault Refusal :=
  .next (s.feed (crcNibble s.params v))

/-- CRC.BYTE (R83). -/
def execCrcByte (b : Byte) (s : State) : Host.Outcome State Fault Refusal :=
  .next (s.feed (crcByte s.params b))

/-- CRC.RD (R84): the accumulator is not changed. -/
def execCrcRd (s : State) : Host.Outcome State Fault Refusal :=
  match s.acc with
  | none => .next (s.raise .unwritten)
  | some a => .next (s.answer (.crc a.low a.high))

/-- CRC.RUN (R85): seeds itself and leaves the accumulator unwritten (R12). -/
def execCrcRun (bytes : List Byte) (s : State) : Host.Outcome State Fault Refusal :=
  .next ((s.setAcc none).answer (.crc (crcRun s.params bytes).low (crcRun s.params bytes).high))

/-- CRC.VFY (R86): seeds itself and leaves the accumulator unwritten (R12); a mismatch is the result `false`. -/
def execCrcVfy (bytes trailer : List Byte) (s : State) : Host.Outcome State Fault Refusal :=
  .next ((s.setAcc none).answer (.verdict (crcVerify s.params bytes trailer)))

end Sys2Proof.Machine
end

