-- ==== Sys2Proof/Machine/Codec.lean ====
section
/-! DEFINITION. The meanings of the Frame Codec's operations: the request builder (`spec/41_frame_build.md` R101, R103) and
the reply validator (`spec/42_frame_validate.md` R120). -/

namespace Sys2Proof.Machine

/-- REQ.READ (R101, R104). -/
def execReqRead (dest source : Byte) (start : Nat) (s : State) : Host.Outcome State Fault Refusal :=
  .next (s.deliver (buildRequest s.params dest source .read start none))

/-- REQ.WRITE (R103, R104, R105). -/
def execReqWrite (dest source : Byte) (start : Nat) (payload : List Byte) (s : State) :
    Host.Outcome State Fault Refusal :=
  .next (s.deliver (buildRequest s.params dest source .write start (some payload)))

/-- RPY.VAL (R120): always completes, whatever the input (R121). -/
def execRpyVal (dest source : Byte) (func : Func) (raw : List Byte) (s : State) : Host.Outcome State Fault Refusal :=
  .next (s.validateReply dest source func raw)

end Sys2Proof.Machine
end

