-- ==== Sys2Proof/Machine/Field.lean ====
section
/-! DEFINITION. The meanings of the Field Decoder's operations (`spec/43_field_decode.md` R151, R152). -/

namespace Sys2Proof.Machine

/-- FLD.GET (R151). -/
def execFldGet (raw : List Byte) (index : Nat) (offset : Int) (s : State) : Host.Outcome State Fault Refusal :=
  match fieldByte raw index offset with
  | some v => .next (s.answer (.byte v))
  | none => .next (s.raise (.decode index))

/-- FLD.DEC (R152): never fails; a layout with a repeated index is refused (R150, R211). -/
def execFldDec (raw : List Byte) (layout : Layout) (s : State) : Host.Outcome State Fault Refusal :=
  if layout.wf then
    .next (s.answer
      (.table (decodeTable raw layout.offset layout.fields) (decodeFaults raw layout.offset layout.fields)))
  else .refused (.command (.repeatedIndex layout))

end Sys2Proof.Machine
end

