-- ==== Sys2Proof/Machine/Frames.lean ====
section
/-! DEFINITION. The meanings of the four frame kinds of the wire (`spec/30_encoding.md` R60), each by the rule the opcode
table gives its row: a request frame is what its rule builds (`spec/41_frame_build.md` R101, R103), a reply frame is
judged by RPY.VAL with the operands the session gives it (`spec/42_frame_validate.md` R120, `spec/30_encoding.md` R73);
log entry 8. -/

namespace Sys2Proof.Machine

/-- REQFRAME.READ (R60, R101). -/
def execReqframeRead (dest source : Byte) (start : Half) (s : State) : Host.Outcome State Fault Refusal :=
  .next (s.deliver (buildRead s.params dest source start.toNat))

/-- REQFRAME.WRITE (R60, R103). -/
def execReqframeWrite (dest source : Byte) (start : Half) (payload : List Byte) (s : State) :
    Host.Outcome State Fault Refusal :=
  .next (s.deliver (buildWrite s.params dest source start.toNat payload))

/-- RPYFRAME.READ (R60, R120). -/
def execRpyframeRead (dest lenLow lenHigh source : Byte) (payload : List Byte) (crcLow crcHigh : Byte) (s : State) :
    Host.Outcome State Fault Refusal :=
  s.withThermostat 0x20 (fun a =>
    .next (s.validateReply masterAddr a .read (replyFrameBytes dest lenLow lenHigh source .read payload crcLow crcHigh)))

/-- RPYFRAME.WRITEACK (R60, R120). -/
def execRpyframeWriteack (dest source crcLow crcHigh : Byte) (s : State) : Host.Outcome State Fault Refusal :=
  s.withThermostat 0x20 (fun a =>
    .next (s.validateReply masterAddr a .write (writeAckBytes dest source crcLow crcHigh)))

end Sys2Proof.Machine
end

