-- ==== Sys2Proof/Machine/SessionOps.lean ====
section
/-! DEFINITION. The meanings of the Device Session's operations (`spec/44_session.md` R173 to R184). -/

namespace Sys2Proof.Machine

/-- SES.REFRESH (R173): the Read request (code 0x10) from register 0, the round trip, the decode and the one atomic
replacement of `FT`. The request cannot fail to build, register 0 fitting 16 bits. -/
def execSesRefresh (s : State) : Host.Outcome State Fault Refusal :=
  s.withThermostat 0x10 (fun a =>
    s.unlessSilent (s.roundTrip .read a (readFrame s.params a masterAddr 0) (fun raw s' =>
      let layout := s'.session.layout
      (s'.setTable (decodeTable raw layout.offset layout.fields)).answer
        (.ok (decodeFaults raw layout.offset layout.fields)))))

/-- SES.WRREG (R174). -/
def execSesWrreg (register value : Nat) (s : State) : Host.Outcome State Fault Refusal :=
  s.writeRegister register value

/-- SES.GET (R176). -/
def execSesGet (index : Nat) (s : State) : Host.Outcome State Fault Refusal :=
  .next (s.getField index (fun e => .entry e.label e.value))

/-- SES.GET.TARGET (R177). -/
def execSesGetTarget (s : State) : Host.Outcome State Fault Refusal :=
  .next (s.getField idxTarget (fun e => .byte e.value))

/-- SES.GET.FLOORMAX (R178). -/
def execSesGetFloormax (s : State) : Host.Outcome State Fault Refusal :=
  .next (s.getField s.session.attrs.idxFloorMax (fun e => .byte e.value))

/-- SES.GET.MODE (R179): a code with no label is an EnumFault (R210). -/
def execSesGetMode (s : State) : Host.Outcome State Fault Refusal :=
  .next (s.getField s.session.attrs.idxMode (fun e =>
    match modeLabel e.value with
    | some text => .label text
    | none => .fault (.enum s.session.attrs.idxMode e.value)))

/-- SES.GET.SENSOR (R180): a code above 4 is an EnumFault (R210). -/
def execSesGetSensor (s : State) : Host.Outcome State Fault Refusal :=
  .next (s.getField s.session.attrs.idxSensor (fun e =>
    match s.session.attrs.sensorLabel[e.value.toNat]? with
    | some text => .label text
    | none => .fault (.enum s.session.attrs.idxSensor e.value)))

/-- SES.SET.TARGET (R182). -/
def execSesSetTarget (t : Int) (s : State) : Host.Outcome State Fault Refusal :=
  s.setRegister .target s.params.rangeTarget s.session.attrs.regTarget t

/-- SES.SET.FROST (R183). -/
def execSesSetFrost (t : Int) (s : State) : Host.Outcome State Fault Refusal :=
  s.setRegister .frost s.params.rangeFrost s.session.attrs.regFrost t

/-- SES.SET.FLOORMAX (R184). -/
def execSesSetFloormax (t : Int) (s : State) : Host.Outcome State Fault Refusal :=
  s.setRegister .floorMax s.params.rangeFloorMax s.session.attrs.regFloorMax t

end Sys2Proof.Machine
end

