-- ==== Sys2Proof/Machine/Dispatch.lean ====
section
/-! DEFINITION. One arm per instruction (`spec/30_encoding.md` R60, R70). -/

namespace Sys2Proof.Machine

/-- The meaning of an instruction. -/
def exec (i : Instr) (s : State) : Host.Outcome State Fault Refusal :=
  match i with
  | .crcInit => Sys2Proof.Machine.execCrcInit s
  | .crcNib v => Sys2Proof.Machine.execCrcNib v s
  | .crcByte b => Sys2Proof.Machine.execCrcByte b s
  | .crcRd => Sys2Proof.Machine.execCrcRd s
  | .crcRun bytes => Sys2Proof.Machine.execCrcRun bytes s
  | .crcVfy bytes trailer => Sys2Proof.Machine.execCrcVfy bytes trailer s
  | .reqRead dest source start => Sys2Proof.Machine.execReqRead dest source start s
  | .reqWrite dest source start payload => Sys2Proof.Machine.execReqWrite dest source start payload s
  | .rpyVal dest source func raw => Sys2Proof.Machine.execRpyVal dest source func raw s
  | .fldGet raw index offset => Sys2Proof.Machine.execFldGet raw index offset s
  | .fldDec raw layout => Sys2Proof.Machine.execFldDec raw layout s
  | .sesRefresh => Sys2Proof.Machine.execSesRefresh s
  | .sesWrreg register value => Sys2Proof.Machine.execSesWrreg register value s
  | .sesGet index => Sys2Proof.Machine.execSesGet index s
  | .sesGetTarget => Sys2Proof.Machine.execSesGetTarget s
  | .sesGetFloormax => Sys2Proof.Machine.execSesGetFloormax s
  | .sesGetMode => Sys2Proof.Machine.execSesGetMode s
  | .sesGetSensor => Sys2Proof.Machine.execSesGetSensor s
  | .sesSetTarget t => Sys2Proof.Machine.execSesSetTarget t s
  | .sesSetFrost t => Sys2Proof.Machine.execSesSetFrost t s
  | .sesSetFloormax t => Sys2Proof.Machine.execSesSetFloormax t s
  | .reqframeRead dest source start => Sys2Proof.Machine.execReqframeRead dest source start s
  | .reqframeWrite dest source start payload => Sys2Proof.Machine.execReqframeWrite dest source start payload s
  | .rpyframeRead dest lenLow lenHigh source payload crcLow crcHigh => Sys2Proof.Machine.execRpyframeRead dest lenLow lenHigh source payload crcLow crcHigh s
  | .rpyframeWriteack dest source crcLow crcHigh => Sys2Proof.Machine.execRpyframeWriteack dest source crcLow crcHigh s

end Sys2Proof.Machine
end

