-- ==== Sys2Proof/Machine/Caller.lean ====
section
/-! DEFINITION. What the block does with one input of the caller (`spec/44_session.md` R186): decode and run an
instruction, DOC0's build contract (`spec/41_frame_build.md` R100, R107), or session construction (R171). -/

namespace Sys2Proof.Machine

/-- One input, the session it is for being active. What the decoder rejects is a CommandFault, a refusal (R211). -/
def State.run (input : Input) (s : State) : Host.Outcome State Fault Refusal :=
  match input with
  | .instr e =>
    match decode s.params e with
    | .ok i => exec i s
    | .error r => .refused (.command r)
  | .buildRequest dest source func start payload =>
    .next (s.deliver (buildRequest s.params dest source func start payload))
  | .construct adapter model found busAddr maxReply attrs => s.construct adapter model found busAddr maxReply attrs

/-- One input, after the session it names has become the active one (R220). -/
def State.take (i : Issue) (s : State) : Host.Outcome State Fault Refusal :=
  match i.session with
  | none => s.run i.input
  | some n =>
    match s.select n with
    | some s' => s'.run i.input
    | none => .refused (.noSuchSession n)

end Sys2Proof.Machine
end

