-- ==== Sys2Proof/Machine/Step.lean ====
section
/-! DEFINITION. One step of the machine: take the caller's oldest input and answer it (`spec/00_scope.md` R6,
`spec/20_memory.md` R41, log entry 5). -/

namespace Sys2Proof.Machine

/-- One step. With no input the block is idle: every operation is started by the caller (R216). -/
def step (s : State) : Host.Outcome State Fault Refusal :=
  match s.pending with
  | [] => .next s
  | i :: rest => (s.setPending rest).take i

/-- The state whose next step runs the instruction of an opcode-table word: its encoded form stands first among the
caller's inputs (log entry 5). -/
def State.withFetchWord (s : State) (nbits w : Nat) : State :=
  s.setPending (⟨none, .instr (tableEncoded nbits w)⟩ :: s.pending)

end Sys2Proof.Machine
end

