-- ==== Sys2Proof/Safety.lean ====
section
/-! DEFINITION. What the claims call a sound state and a safe input: the canonical form of the Field Table relative to its
layout (`spec/10_state.md` R17, `spec/43_field_decode.md` R150), and the ways a step can stop (`spec/60_exceptions.md`
R211, `spec/70_reset_and_hazards.md` R246). -/

namespace Sys2Proof

/-- The operations that make an exchange (R173, R174, R181). -/
def Instr.exchanges : Instr → Bool
  | .sesRefresh | .sesWrreg _ _ | .sesSetTarget _ | .sesSetFrost _ | .sesSetFloormax _ => true
  | .crcInit | .crcNib _ | .crcByte _ | .crcRd | .crcRun _ | .crcVfy _ _ | .reqRead _ _ _ | .reqWrite _ _ _ _
  | .rpyVal _ _ _ _ | .fldGet _ _ _ | .fldDec _ _ | .sesGet _ | .sesGetTarget | .sesGetFloormax | .sesGetMode
  | .sesGetSensor | .reqframeRead _ _ _ | .reqframeWrite _ _ _ _ | .rpyframeRead _ _ _ _ _ _ _
  | .rpyframeWriteack _ _ _ _ => false

/-- The operations that give the session's `bus_addr` to a unit operation as an operand: the exchanges, and the reply frame
kinds (R173, R174, R73; log entries 4 and 8). -/
def Instr.usesBusAddr : Instr → Bool
  | .rpyframeRead _ _ _ _ _ _ _ | .rpyframeWriteack _ _ _ _ => true
  | .sesRefresh | .sesWrreg _ _ | .sesSetTarget _ | .sesSetFrost _ | .sesSetFloormax _ => true
  | .crcInit | .crcNib _ | .crcByte _ | .crcRd | .crcRun _ | .crcVfy _ _ | .reqRead _ _ _ | .reqWrite _ _ _ _
  | .rpyVal _ _ _ _ | .fldGet _ _ _ | .fldDec _ _ | .sesGet _ | .sesGetTarget | .sesGetFloormax | .sesGetMode
  | .sesGetSensor | .reqframeRead _ _ _ | .reqframeWrite _ _ _ _ => false

end Sys2Proof

namespace Sys2Proof.Machine

/-- The layout entry a table entry stands for (R17: the label is carried through unchanged). -/
def FieldEntry.decl (e : FieldEntry) : FieldDecl := ⟨e.index, e.label⟩

/-- A session is sound when its layout has distinct indices (R150) and its Field Table is the layout's field list with
some entries left out, in the layout's declared order and under the layout's labels (R17). -/
abbrev Session.Sound (x : Session) : Prop :=
  x.layout.wf = true ∧ (x.table.map FieldEntry.decl).Sublist x.layout.fields

/-- THE INVARIANT: every session is sound, and no Transport Adapter is listed twice. -/
abbrev State.Inv (s : State) : Prop :=
  s.session.Sound ∧ (∀ x ∈ s.others, x.Sound) ∧ (s.adapters.map Prod.fst).Nodup

/-- The result of the last operation is a fault (R200). -/
def State.faulted (s : State) : Bool :=
  match s.result with
  | some (.fault _) => true
  | _ => false

/-- An instruction cannot stop the machine in this state: no exchange meets an adapter that never answers (R246), a bus
address that is used is a byte (R106, log entry 4), and no layout operand repeats an index (R150). -/
def State.safeFor (s : State) (i : Instr) : Prop :=
  (i.exchanges = true → s.transport.silent = false) ∧
  (i.usesBusAddr = true → 0 ≤ s.session.busAddr ∧ s.session.busAddr ≤ 255) ∧ i.wf = true

end Sys2Proof.Machine
end

