-- ==== Sys2Proof/Certificates/Slice0/Obligations.lean ====
section
/-! DEFINITION. The statements about the model, from the numbered rules of spec/, for the provers. A statement that ends in
`exec i s = .next …` with a record update of `s` states the instruction's completion, its result and its whole frame: every
field not updated is unchanged. Where the spec's rule does not itself say what an operation leaves in the transient
accumulator, the update is `acc := a` for some `a`, and InnerCrcLeavesAccumulatorUnwritten states the model's choice (log entry 10).
Where a docstring names a decision D<n>, that clause is the spec's own choice in `spec/92_eei_decisions.md`; every operation code is
decision D20's. -/

open Sys2Proof Sys2Proof.Machine

namespace Sys2Proof.Claims

/-- The caller issues an operation code with operands (R70). -/
def issue (code : Byte) (ops : List Operand) (s : State) : Host.Outcome State Fault Refusal :=
  s.run (.instr (.operation code ops))

/-- A list of instructions run in order, stopping at the first that does not answer a next state. -/
def execAll : List Instr → State → Host.Outcome State Fault Refusal
  | [], s => .next s
  | i :: is, s =>
    match exec i s with
    | .next t => execAll is t
    | .fault f => .fault f
    | .refused r => .refused r

/-- The nibbles of a byte sequence, high nibble of each byte first (R85). -/
def nibbles (m : List Byte) : List Nibble := m.flatMap (fun b => [highNibble b, lowNibble b])

/-- The bits of a byte, most significant first. -/
def byteBits (b : Byte) : List Bool := (List.range 8).map (fun i => b.getMsbD i)

/-- One step of the bitwise CRC with polynomial 0x1021, most significant bit first (R88). -/
def bitStep (r : Half) (b : Bool) : Half := if (r.msb ^^ b) = true then (r <<< 1) ^^^ 0x1021 else r <<< 1

/-- What an outcome hands the caller: the result of a next state. -/
def resultOf : Host.Outcome State Fault Refusal → Option Result
  | .next t => t.result
  | _ => none

/-- What one exchange leaves of an adapter (R175, log entry 7): the calls it consisted of are recorded after the earlier
ones, and exactly one answer is used up, the script's oldest or, where the script is used up, one free answer. -/
def Exchanged (before after : Transport) (made : List TransportCall) : Prop :=
  after.calls = before.calls ++ made ∧ after.script = before.script.tail ∧
    after.drawn = if before.script = [] then before.drawn + 1 else before.drawn

/-- The operand types of R70. -/
inductive OperandType where
  | nibble
  | byte
  | natural
  | integer
  | function
  | bytes
  | layout
  deriving DecidableEq, Repr

/-- An operand value lies in its type (R8, R71, R150). -/
def admits : OperandType → Operand → Bool
  | .nibble, .num z => decide (0 ≤ z ∧ z ≤ 15)
  | .byte, .num z => decide (0 ≤ z ∧ z ≤ 255)
  | .natural, .num z => decide (0 ≤ z)
  | .integer, .num _ => true
  | .function, .num z => decide (z = 0 ∨ z = 1)
  | .bytes, .bytes _ => true
  | .layout, .layout l => decide (l.fields.map (·.index)).Nodup
  | _, _ => false

/-- The operand types R70 lists for each operation code, none for a reserved code. -/
def signature (code : Byte) : Option (List OperandType) :=
  match code.toNat with
  | 0x00 | 0x03 | 0x40 | 0x43 | 0x44 | 0x45 | 0x46 => some []
  | 0x01 => some [.nibble]
  | 0x02 => some [.byte]
  | 0x04 => some [.bytes]
  | 0x05 => some [.bytes, .bytes]
  | 0x10 => some [.byte, .byte, .natural]
  | 0x11 => some [.byte, .byte, .natural, .bytes]
  | 0x20 => some [.byte, .byte, .function, .bytes]
  | 0x30 => some [.bytes, .natural, .integer]
  | 0x31 => some [.bytes, .layout]
  | 0x41 => some [.natural, .natural]
  | 0x42 => some [.natural]
  | 0x48 | 0x49 | 0x4A => some [.integer]
  | _ => none

end Sys2Proof.Claims

open Sys2Proof.Claims

/-! ### Checksum Engine -/

/-- R81: code 0x00; both registers 0xFF in any state. -/
def Obligations.CrcInitSeedsAccumulator : Prop :=
  ∀ s : State, issue 0x00 [] s = exec .crcInit s ∧
    exec .crcInit s = .next { s with acc := some ⟨0xFF, 0xFF⟩, result := some .done }

/-- R82: code 0x01; the three steps from the value of `crc_high` before the shift; UnwrittenFault on an unwritten
accumulator (D21); an operand that is no nibble is refused (D20). -/
def Obligations.CrcNibThreeSteps : Prop :=
  (∀ (s : State) (v : Nibble), issue 0x01 [.num v.toNat] s = exec (.crcNib v) s) ∧
  (∀ (s : State) (z : Int), z < 0 ∨ 15 < z → issue 0x01 [.num z] s = .refused (.command (.operandRange 0x01 z))) ∧
  (∀ (s : State) (v : Nibble), s.acc = none →
    exec (.crcNib v) s = .next { s with result := some (.fault .unwritten) }) ∧
  (∀ (s : State) (v : Nibble) (low high : Byte), s.acc = some ⟨low, high⟩ →
    exec (.crcNib v) s =
      .next { s with
        acc := some ⟨(low <<< 4) ^^^ s.params.lookupLow.get ((high >>> 4).setWidth 4 ^^^ v).toFin,
          ((high <<< 4) ||| (low >>> 4)) ^^^ s.params.lookupHigh.get ((high >>> 4).setWidth 4 ^^^ v).toFin⟩,
        result := some .done })

/-- R82, "Seen as one 16-bit register": the step on `R = (crc_high << 8) | crc_low`. -/
def Obligations.NibbleStepOnOneRegister : Prop :=
  ∀ (p : Params) (v : Nibble) (a : Accumulator),
    le16 (crcNibble p v a).low (crcNibble p v a).high =
      (le16 a.low a.high <<< 4) ^^^
        le16 (p.romLow ((le16 a.low a.high >>> 12).setWidth 4 ^^^ v))
          (p.romHigh ((le16 a.low a.high >>> 12).setWidth 4 ^^^ v))

/-- R83: code 0x02; CRC.BYTE is CRC.NIB of the high nibble and then of the low one; on an unwritten accumulator
UnwrittenFault (R82, D21) is raised and nothing else changes. -/
def Obligations.CrcByteIsTwoNibbles : Prop :=
  (∀ (s : State) (b : Byte), issue 0x02 [.num b.toNat] s = exec (.crcByte b) s) ∧
  (∀ (s : State) (b : Byte), s.acc = none →
    exec (.crcByte b) s = .next { s with result := some (.fault .unwritten) }) ∧
  (∀ (s : State) (b : Byte), s.acc ≠ none → ∃ m t : State,
    exec (.crcNib ((b >>> 4).setWidth 4)) s = .next m ∧ exec (.crcNib ((b &&& 0x0F).setWidth 4)) m = .next t ∧
    exec (.crcByte b) s = .next t)

/-- R84: code 0x03; the pair, low byte first, the accumulator unchanged; UnwrittenFault when unwritten (D21). That the
result is an operation of its own is D1. -/
def Obligations.CrcRdReadsPairLowFirst : Prop :=
  (∀ s : State, issue 0x03 [] s = exec .crcRd s) ∧
  (∀ s : State, s.acc = none → exec .crcRd s = .next { s with result := some (.fault .unwritten) }) ∧
  (∀ (s : State) (low high : Byte), s.acc = some ⟨low, high⟩ →
    exec .crcRd s = .next { s with result := some (.crc low high) })

/-- R85: code 0x04; the result is the fold of the nibble step over the nibbles of the bytes from the seed, whatever the
accumulator held, and the accumulator becomes unwritten. -/
def Obligations.CrcRunFoldsFromSeed : Prop :=
  ∀ (s : State) (m : List Byte), issue 0x04 [.bytes m] s = exec (.crcRun m) s ∧
    exec (.crcRun m) s =
      .next { s with
        acc := none,
        result := some (.crc
          ((nibbles m).foldl (fun a v => crcNibble s.params v a) ⟨0xFF, 0xFF⟩).low
          ((nibbles m).foldl (fun a v => crcNibble s.params v a) ⟨0xFF, 0xFF⟩).high) }

/-- R73, R85: `compute(bytes)` driven by hand (CRC.INIT, one CRC.BYTE per byte, CRC.RD) answers what CRC.RUN answers. -/
def Obligations.ComputeByHandAgreesWithRun : Prop :=
  ∀ (s : State) (m : List Byte), ∃ t u : State,
    execAll (.crcInit :: m.map Instr.crcByte ++ [.crcRd]) s = .next t ∧ exec (.crcRun m) s = .next u ∧
    t.result = u.result ∧ { t with acc := none } = u

/-- R86: code 0x05; true exactly when the trailer is the two computed bytes, low byte first, so `false` for a trailer of
another length (D8); a mismatch is `false`, not a fault; the accumulator becomes unwritten (R12, D21). -/
def Obligations.CrcVfyRecomputesAndCompares : Prop :=
  ∀ (s : State) (m tr : List Byte), issue 0x05 [.bytes m, .bytes tr] s = exec (.crcVfy m tr) s ∧
    exec (.crcVfy m tr) s =
      .next { s with
        acc := none,
        result := some (.verdict (decide (tr = [(crcRun s.params m).low, (crcRun s.params m).high]))) }

/-- R87 (a) and (b): CRC.RUN's pair, handed to CRC.VFY as the trailer, verifies, for every message and every tables. -/
def Obligations.VerifyAcceptsWhatRunComputed : Prop :=
  ∀ (s : State) (m : List Byte), ∃ (low high : Byte) (t u : State),
    exec (.crcRun m) s = .next t ∧ t.result = some (.crc low high) ∧
    exec (.crcVfy m [low, high]) t = .next u ∧ u.result = some (.verdict true)

/-- R241: two messages fed through one CRC.INIT give the CRC of their concatenation. -/
def Obligations.TwoMessagesOneSeedIsConcatenation : Prop :=
  ∀ (s : State) (m m' : List Byte), ∃ t : State,
    execAll (.crcInit :: (m.map Instr.crcByte ++ m'.map Instr.crcByte)) s = .next t ∧
    t.acc = some (crcRun s.params (m ++ m'))

/-- R88: with the default tables CRC.RUN is the bitwise CRC with polynomial 0x1021, initial value 0xFFFF, no reflection
and no final XOR. -/
def Obligations.DefaultTablesGiveBitwiseCrc : Prop :=
  ∀ m : List Byte,
    le16 (crcRun defaultParams m).low (crcRun defaultParams m).high =
      (m.flatMap byteBits).foldl bitStep 0xFFFF

/-- R89, and more: with the default tables a message changed in exactly one byte (so one bit at least, eight at most)
always has another CRC. -/
def Obligations.OneChangedByteChangesCrc : Prop :=
  ∀ (before after : List Byte) (b c : Byte), b ≠ c →
    crcRun defaultParams (before ++ b :: after) ≠ crcRun defaultParams (before ++ c :: after)

/-! ### Request builder -/

/-- R101, R104: code 0x10; the 10 bytes of a Read request, or StartRegisterTooWide and no frame. -/
def Obligations.ReqReadBuildsTenBytes : Prop :=
  (∀ (s : State) (d x : Byte) (r : Nat), issue 0x10 [.num d.toNat, .num x.toNat, .num r] s = exec (.reqRead d x r) s) ∧
  (∀ (s : State) (d x : Byte) (r : Nat), 0xFFFF < r →
    exec (.reqRead d x r) s = .next { s with result := some (.fault (.build .startRegisterTooWide)) }) ∧
  (∀ (s : State) (d x : Byte) (r : Nat), r ≤ 0xFFFF → ∃ (a : Option Accumulator) (hdr : List Byte),
    hdr = [d, 10, x, 0x00, BitVec.ofNat 8 (r % 256), BitVec.ofNat 8 (r / 256),
      BitVec.ofNat 8 (s.params.lenAll.toNat % 256), BitVec.ofNat 8 (s.params.lenAll.toNat / 256)] ∧
    exec (.reqRead d x r) s =
      .next { s with
        acc := a,
        result := some (.frame (hdr ++ [(crcRun s.params hdr).low, (crcRun s.params hdr).high])) })

/-- R103, R104, R105: code 0x11; the bytes of a Write request, or the first of StartRegisterTooWide and PayloadTooLong. The
bound 245 is D5, the order of the two tests and the empty payload D6. -/
def Obligations.ReqWriteBuildsFrame : Prop :=
  (∀ (s : State) (d x : Byte) (r : Nat) (pl : List Byte),
    issue 0x11 [.num d.toNat, .num x.toNat, .num r, .bytes pl] s = exec (.reqWrite d x r pl) s) ∧
  (∀ (s : State) (d x : Byte) (r : Nat) (pl : List Byte), 0xFFFF < r →
    exec (.reqWrite d x r pl) s = .next { s with result := some (.fault (.build .startRegisterTooWide)) }) ∧
  (∀ (s : State) (d x : Byte) (r : Nat) (pl : List Byte), r ≤ 0xFFFF → 245 < pl.length →
    exec (.reqWrite d x r pl) s = .next { s with result := some (.fault (.build .payloadTooLong)) }) ∧
  (∀ (s : State) (d x : Byte) (r : Nat) (pl : List Byte), r ≤ 0xFFFF → pl.length ≤ 245 →
    ∃ (a : Option Accumulator) (body : List Byte),
    body = [d, BitVec.ofNat 8 (10 + pl.length), x, 0x01, BitVec.ofNat 8 (r % 256), BitVec.ofNat 8 (r / 256),
      BitVec.ofNat 8 pl.length, 0x00] ++ pl ∧
    exec (.reqWrite d x r pl) s =
      .next { s with
        acc := a,
        result := some (.frame (body ++ [(crcRun s.params body).low, (crcRun s.params body).high])) })

/-- R100, R107: the build contract dispatches on the function; a Read given a non-empty payload is refused with
PayloadOnRead (D6; for a start register that fits: the order of the two tests is log entry 11's). That a Write with the
payload omitted is one with the empty payload is log entry 14's. -/
def Obligations.BuildContractDispatches : Prop :=
  (∀ (s : State) (d x : Byte) (r : Nat),
    s.run (.buildRequest d x .read r none) = exec (.reqRead d x r) s ∧
    s.run (.buildRequest d x .read r (some [])) = exec (.reqRead d x r) s) ∧
  (∀ (s : State) (d x : Byte) (r : Nat) (pl : List Byte),
    s.run (.buildRequest d x .write r (some pl)) = exec (.reqWrite d x r pl) s) ∧
  (∀ (s : State) (d x : Byte) (r : Nat),
    s.run (.buildRequest d x .write r none) = exec (.reqWrite d x r []) s) ∧
  (∀ (s : State) (d x : Byte) (r : Nat) (pl : List Byte), r ≤ 0xFFFF → pl ≠ [] →
    s.run (.buildRequest d x .read r (some pl)) = .next { s with result := some (.fault (.build .payloadOnRead)) })

/-- R108 (a) to (f): what holds of every frame REQ.READ and REQ.WRITE return. -/
def Obligations.BuiltFramesKeepTheirShape : Prop :=
  (∀ (s t : State) (d x : Byte) (r : Nat) (f : List Byte),
    exec (.reqRead d x r) s = .next t → t.result = some (.frame f) →
    f[1]?.map BitVec.toNat = some f.length ∧ f.length = 10 ∧ f[3]? = some 0x00 ∧
    crcVerify s.params (f.take (f.length - 2)) (f.drop (f.length - 2)) = true ∧
    (∃ lo hi, f[4]? = some lo ∧ f[5]? = some hi ∧ (le16 lo hi).toNat = r) ∧
    (∃ lo hi, f[6]? = some lo ∧ f[7]? = some hi ∧ le16 lo hi = s.params.lenAll)) ∧
  (∀ (s t : State) (d x : Byte) (r : Nat) (pl f : List Byte),
    exec (.reqWrite d x r pl) s = .next t → t.result = some (.frame f) →
    f[1]?.map BitVec.toNat = some f.length ∧ 10 ≤ f.length ∧ f.length ≤ 255 ∧ f[3]? = some 0x01 ∧
    crcVerify s.params (f.take (f.length - 2)) (f.drop (f.length - 2)) = true ∧
    (∃ lo hi, f[4]? = some lo ∧ f[5]? = some hi ∧ (le16 lo hi).toNat = r) ∧
    (∃ lo hi, f[6]? = some lo ∧ f[7]? = some hi ∧ (le16 lo hi).toNat = f.length - 10) ∧
    (f.take (f.length - 2)).drop 8 = pl)

/-- R109: a request built with a nonzero source, read as a reply, violates V9 whatever the operands. -/
def Obligations.RequestIsNeverAValidReply : Prop :=
  ∀ (s t : State) (i : Instr) (d x : Byte) (r : Nat) (pl f : List Byte),
    i = .reqRead d x r ∨ i = .reqWrite d x r pl →
    exec i s = .next t → t.result = some (.frame f) → x ≠ 0 →
    ∀ (p : Params) (de se : Byte) (fe : Func),
      (validate p de se fe f).vstat.getLsbD 8 = true ∧ (validate p de se fe f).valid = false

/-! ### Reply validator -/

/-- R15, R121, R132: code 0x20; any byte sequence is answered with a record that returns the frame and the header fields
whose bytes exist; valid exactly when VSTAT is 0; nothing but the transient accumulator and the result changes. -/
def Obligations.RpyValAlwaysAnswersARecord : Prop :=
  (∀ (s : State) (d x : Byte) (f : Func) (raw : List Byte),
    issue 0x20 [.num d.toNat, .num x.toNat, .num f.code.toNat, .bytes raw] s = exec (.rpyVal d x f raw) s) ∧
  (∀ (s : State) (d x : Byte) (f : Func) (raw : List Byte), ∃ (a : Option Accumulator) (v : ValidationRecord),
    exec (.rpyVal d x f raw) s = .next { s with acc := a, result := some (.validation v) } ∧
    v.raw = raw ∧ v.destAddr = raw[0]? ∧ v.sourceAddr = raw[3]? ∧ v.funcCode = raw[4]? ∧
    (raw.length < 3 → v.frameLen = none) ∧
    (∀ lo hi, raw[1]? = some lo → raw[2]? = some hi → v.frameLen = some (le16 lo hi)) ∧
    (v.valid = true ↔ v.vstat = 0))

/-- R123 to R131: each bit of VSTAT is set exactly when its rule is violated, a rule whose byte is missing being
violated (R122, D8); that bit `k-1` is rule V`k` is D9. -/
def Obligations.VstatBitsAreTheNineRules : Prop :=
  ∀ (s : State) (d x : Byte) (f : Func) (raw : List Byte), ∃ (a : Option Accumulator) (v : ValidationRecord),
    exec (.rpyVal d x f raw) s = .next { s with acc := a, result := some (.validation v) } ∧
    (v.vstat.getLsbD 0 = true ↔
      ¬ ∃ m : List Byte, raw = m ++ [(crcRun s.params m).low, (crcRun s.params m).high]) ∧
    (v.vstat.getLsbD 1 = true ↔ ¬ (raw[0]? = some 129 ∨ raw[0]? = some 160)) ∧
    (v.vstat.getLsbD 2 = true ↔ raw[0]? ≠ some d) ∧
    (v.vstat.getLsbD 3 = true ↔ ¬ ∃ y : Byte, raw[3]? = some y ∧ 1 ≤ y.toNat ∧ y.toNat ≤ 32) ∧
    (v.vstat.getLsbD 4 = true ↔ raw[3]? ≠ some x) ∧
    (v.vstat.getLsbD 5 = true ↔ ¬ (raw[4]? = some 0 ∨ raw[4]? = some 1)) ∧
    (v.vstat.getLsbD 6 = true ↔ raw[4]? ≠ some (match f with | .read => (0 : Byte) | .write => 1)) ∧
    (v.vstat.getLsbD 7 = true ↔
      raw[4]? = none ∨ (raw[4]? = some 1 ∧ ¬ (raw[1]? = some 7 ∧ raw[2]? = some 0))) ∧
    (v.vstat.getLsbD 8 = true ↔
      ¬ ∃ lo hi : Byte, raw[1]? = some lo ∧ raw[2]? = some hi ∧ lo.toNat + 256 * hi.toNat = raw.length)

/-- R134 (a) to (d) and (f): the operands and the shape of a frame RPY.VAL finds valid, for every tables. -/
def Obligations.ValidReplyHasItsShape : Prop :=
  ∀ (p : Params) (d x : Byte) (f : Func) (raw : List Byte), (validate p d x f raw).valid = true →
    (d = 129 ∨ d = 160) ∧ 1 ≤ x.toNat ∧ x.toNat ≤ 32 ∧
    (∃ lo hi : Byte, raw[1]? = some lo ∧ raw[2]? = some hi ∧ lo.toNat + 256 * hi.toNat = raw.length) ∧
    (f = .write → ∃ low high : Byte, raw = [d, 0x07, 0x00, x, 0x01, low, high]) ∧
    (f = .read → raw[4]? = some 0)

/-- R134 (e): with the default tables no frame of fewer than 7 bytes is valid for any operands. -/
def Obligations.NoShortReplyIsValid : Prop :=
  ∀ (d x : Byte) (f : Func) (raw : List Byte), raw.length < 7 → (validate defaultParams d x f raw).valid = false

/-! ### Field Decoder -/

/-- R151: code 0x30; the byte at `index + offset` of the whole frame, or DecodeFault(index) when that position is out of
bounds, below zero included (D10). -/
def Obligations.FldGetReadsOneByte : Prop :=
  (∀ (s : State) (raw : List Byte) (i : Nat) (o : Int),
    issue 0x30 [.bytes raw, .num i, .num o] s = exec (.fldGet raw i o) s) ∧
  (∀ (s : State) (raw : List Byte) (i : Nat) (o : Int), (i : Int) + o < 0 ∨ (raw.length : Int) ≤ i + o →
    exec (.fldGet raw i o) s = .next { s with result := some (.fault (.decode i)) }) ∧
  (∀ (s : State) (raw : List Byte) (i q : Nat) (o : Int) (b : Byte), (i : Int) + o = q → raw[q]? = some b →
    exec (.fldGet raw i o) s = .next { s with result := some (.byte b) })

/-- R150, R152: code 0x31; a layout with distinct indices always gives a table and a fault list, each in the layout's
declared order, the in-bounds entries in the one and the others in the other; a repeated index is refused (R150, D11, where:
log entry 12). -/
def Obligations.FldDecSplitsTheLayout : Prop :=
  (∀ (s : State) (raw : List Byte) (l : Layout), issue 0x31 [.bytes raw, .layout l] s = exec (.fldDec raw l) s) ∧
  (∀ (s : State) (raw : List Byte) (l : Layout), ¬ (l.fields.map (·.index)).Nodup →
    exec (.fldDec raw l) s = .refused (.command (.repeatedIndex l))) ∧
  (∀ (s : State) (raw : List Byte) (l : Layout), (l.fields.map (·.index)).Nodup →
    exec (.fldDec raw l) s =
      .next { s with result := some (.table
        (l.fields.filterMap (fun e =>
          if (e.index : Int) + l.offset < 0 then none
          else raw[((e.index : Int) + l.offset).toNat]?.map (fun b => ⟨e.index, e.label, b⟩)))
        ((l.fields.filter (fun e =>
          decide ((e.index : Int) + l.offset < 0 ∨ (raw.length : Int) ≤ e.index + l.offset))).map
          (fun e => .decode e.index))) })

/-- R153: an index of the layout is a key of the table exactly when its position is in bounds, and then the entry holds
that byte under the layout's label. -/
def Obligations.PartialDecodeKeepsInBoundsFields : Prop :=
  ∀ (s : State) (raw : List Byte) (l : Layout), l.wf = true → ∃ (tbl : FieldTable) (fs : List FaultValue),
    exec (.fldDec raw l) s = .next { s with result := some (.table tbl fs) } ∧
    ∀ e ∈ l.fields,
      ((∃ x ∈ tbl, x.index = e.index) ↔ 0 ≤ (e.index : Int) + l.offset ∧ (e.index : Int) + l.offset < raw.length) ∧
      (∀ x ∈ tbl, x.index = e.index →
        x.label = e.label ∧ raw[((e.index : Int) + l.offset).toNat]? = some x.value)

/-! ### Device Session -/

/-- R173: code 0x40; the exchange of a refresh and each of its four outcomes, in a session whose address is a byte (one
that is not: AddressOutsideByteIsRefused). `s.nextAnswer` is whatever the session's adapter answers, scripted or free; one
answer is used up, and of a reply at most `max_reply` bytes are read (log entry 7). The addresses are D15, the replacement
beside DecodeFaults D13, the class when V1 is among the violated rules D14. -/
def Obligations.RefreshOutcomes : Prop :=
  (∀ s : State, issue 0x40 [] s = exec .sesRefresh s) ∧
  ∀ (s : State) (th : Byte), s.session.busAddr = th.toNat → s.transport.silent = false →
    ∃ (a : Option Accumulator) (tr : Transport),
      match s.nextAnswer with
      | .writeFault e =>
        Exchanged s.transport tr [.write (readFrame s.params th 129 0)] ∧
        exec .sesRefresh s = .next { s.setTransport tr with acc := a, result := some (.fault (.io e)) }
      | .readFault e =>
        Exchanged s.transport tr [.write (readFrame s.params th 129 0), .read s.session.maxReply.toNat] ∧
        exec .sesRefresh s = .next { s.setTransport tr with acc := a, result := some (.fault (.io e)) }
      | .reply bytes =>
        Exchanged s.transport tr [.write (readFrame s.params th 129 0), .read s.session.maxReply.toNat] ∧
        ∃ (raw : List Byte) (v : ValidationRecord),
          raw = bytes.take s.session.maxReply.toNat ∧ v = validate s.params 129 th .read raw ∧
          (v.valid = true → exec .sesRefresh s =
            .next { s.setTransport tr with
              acc := a,
              session := { s.session with table := decodeTable raw s.session.layout.offset s.session.layout.fields },
              result := some (.ok (decodeFaults raw s.session.layout.offset s.session.layout.fields)) }) ∧
          (v.valid = false → exec .sesRefresh s =
            .next { s.setTransport tr with
              acc := a,
              result := some (.fault (if v.vstat.getLsbD 0 then .checksum v else .validation v)) })

/-- R174: code 0x41; the order of SES.WRREG's faults, its one exchange, and that `FT` is touched on no path, in a session
whose address is a byte (one that is not: AddressOutsideByteIsRefused). ValueTooWide is D26, the read length D16, the class
when V1 is among the violated rules D14; one answer is used up (log entry 7). -/
def Obligations.WrregOutcomes : Prop :=
  (∀ (s : State) (r v : Nat), issue 0x41 [.num r, .num v] s = exec (.sesWrreg r v) s) ∧
  (∀ (s : State) (r v : Nat), 255 < v →
    exec (.sesWrreg r v) s = .next { s with result := some (.fault (.build .valueTooWide)) }) ∧
  (∀ (s : State) (th : Byte) (r v : Nat), s.session.busAddr = th.toNat → v ≤ 255 → 0xFFFF < r →
    exec (.sesWrreg r v) s = .next { s with result := some (.fault (.build .startRegisterTooWide)) }) ∧
  (∀ (s : State) (th : Byte) (r v : Nat) (req : List Byte), s.session.busAddr = th.toNat → v ≤ 255 → r ≤ 0xFFFF →
    s.transport.silent = false → req = writeFrame s.params th 129 (BitVec.ofNat 16 r) [BitVec.ofNat 8 v] →
    ∃ (a : Option Accumulator) (tr : Transport),
      match s.nextAnswer with
      | .writeFault e =>
        Exchanged s.transport tr [.write req] ∧
        exec (.sesWrreg r v) s = .next { s.setTransport tr with acc := a, result := some (.fault (.io e)) }
      | .readFault e =>
        Exchanged s.transport tr [.write req, .read s.session.maxReply.toNat] ∧
        exec (.sesWrreg r v) s = .next { s.setTransport tr with acc := a, result := some (.fault (.io e)) }
      | .reply bytes =>
        Exchanged s.transport tr [.write req, .read s.session.maxReply.toNat] ∧
        ∃ w : ValidationRecord,
          w = validate s.params 129 th .write (bytes.take s.session.maxReply.toNat) ∧
          (w.valid = true → exec (.sesWrreg r v) s =
            .next { s.setTransport tr with acc := a, result := some (.ok []) }) ∧
          (w.valid = false → exec (.sesWrreg r v) s =
            .next { s.setTransport tr with
              acc := a,
              result := some (.fault (if w.vstat.getLsbD 0 then .checksum w else .validation w)) }))

/-- R246, as log entry 7 models it: an exchange with an adapter that never answers hangs, be it SES.REFRESH's, SES.WRREG's
or a setter's; no other operation does. -/
def Obligations.SilentAdapterHangsExchanges : Prop :=
  ∀ s : State, s.transport.silent = true →
    (∀ i : Instr, i.exchanges = false → ∀ f : Fault, exec i s ≠ .fault f) ∧
    (0 ≤ s.session.busAddr → s.session.busAddr ≤ 255 →
      exec .sesRefresh s = .fault .transportHang ∧
      (∀ r v : Nat, v ≤ 255 → r ≤ 0xFFFF → exec (.sesWrreg r v) s = .fault .transportHang) ∧
      (∀ t : Int, t ≤ 255 →
        (s.params.rangeTarget.min ≤ t → t ≤ s.params.rangeTarget.max → s.session.attrs.regTarget ≤ 0xFFFF →
          exec (.sesSetTarget t) s = .fault .transportHang) ∧
        (s.params.rangeFrost.min ≤ t → t ≤ s.params.rangeFrost.max → s.session.attrs.regFrost ≤ 0xFFFF →
          exec (.sesSetFrost t) s = .fault .transportHang) ∧
        (s.params.rangeFloorMax.min ≤ t → t ≤ s.params.rangeFloorMax.max → s.session.attrs.regFloorMax ≤ 0xFFFF →
          exec (.sesSetFloormax t) s = .fault .transportHang)))

/-- R171, R106, R71, R211 (log entry 4): construction does not check the bus address; in a session whose address is no byte,
an operation that would give it to REQ.READ, REQ.WRITE or RPY.VAL is refused with that code and the address, and what comes
before that still happens. -/
def Obligations.AddressOutsideByteIsRefused : Prop :=
  ∀ s : State, s.session.busAddr < 0 ∨ 255 < s.session.busAddr →
    exec .sesRefresh s = .refused (.command (.operandRange 0x10 s.session.busAddr)) ∧
    (∀ r v : Nat, v ≤ 255 → exec (.sesWrreg r v) s = .refused (.command (.operandRange 0x11 s.session.busAddr))) ∧
    (∀ t : Int, t ≤ 255 →
      (s.params.rangeTarget.min ≤ t → t ≤ s.params.rangeTarget.max →
        exec (.sesSetTarget t) s = .refused (.command (.operandRange 0x11 s.session.busAddr))) ∧
      (s.params.rangeFrost.min ≤ t → t ≤ s.params.rangeFrost.max →
        exec (.sesSetFrost t) s = .refused (.command (.operandRange 0x11 s.session.busAddr))) ∧
      (s.params.rangeFloorMax.min ≤ t → t ≤ s.params.rangeFloorMax.max →
        exec (.sesSetFloormax t) s = .refused (.command (.operandRange 0x11 s.session.busAddr)))) ∧
    (∀ (d ll lh x : Byte) (pl : List Byte) (cl ch : Byte), exec (.rpyframeRead d ll lh x pl cl ch) s =
      .refused (.command (.operandRange 0x20 s.session.busAddr))) ∧
    (∀ d x cl ch : Byte, exec (.rpyframeWriteack d x cl ch) s =
      .refused (.command (.operandRange 0x20 s.session.busAddr)))

/-- R176: code 0x42; the entry of a key, StaleDataFault for an index that is no key; in every state whose table has
distinct keys, as StepKeepsTheFieldTableForm keeps them. -/
def Obligations.SesGetReadsTheTable : Prop :=
  (∀ (s : State) (i : Nat), issue 0x42 [.num i] s = exec (.sesGet i) s) ∧
  (∀ (s : State) (i : Nat), (∀ e ∈ s.session.table, e.index ≠ i) →
    exec (.sesGet i) s = .next { s with result := some (.fault (.staleData i)) }) ∧
  (∀ (s : State) (e : FieldEntry), (s.session.table.map (·.index)).Nodup → e ∈ s.session.table →
    exec (.sesGet e.index) s = .next { s with result := some (.entry e.label e.value) })

/-- R177, R178: codes 0x43 and 0x44; the raw byte of index 18 and of IDX_FLOORMAX, StaleDataFault when absent. -/
def Obligations.TemperatureGettersReadRawByte : Prop :=
  (∀ s : State, issue 0x43 [] s = exec .sesGetTarget s ∧ issue 0x44 [] s = exec .sesGetFloormax s) ∧
  (∀ s : State, (∀ e ∈ s.session.table, e.index ≠ 18) →
    exec .sesGetTarget s = .next { s with result := some (.fault (.staleData 18)) }) ∧
  (∀ (s : State) (e : FieldEntry), (s.session.table.map (·.index)).Nodup → e ∈ s.session.table → e.index = 18 →
    exec .sesGetTarget s = .next { s with result := some (.byte e.value) }) ∧
  (∀ s : State, (∀ e ∈ s.session.table, e.index ≠ s.session.attrs.idxFloorMax) →
    exec .sesGetFloormax s = .next { s with result := some (.fault (.staleData s.session.attrs.idxFloorMax)) }) ∧
  (∀ (s : State) (e : FieldEntry), (s.session.table.map (·.index)).Nodup → e ∈ s.session.table →
    e.index = s.session.attrs.idxFloorMax →
    exec .sesGetFloormax s = .next { s with result := some (.byte e.value) })

/-- R179, R210: code 0x45; the labels of codes 0 and 1, EnumFault above (D18), StaleDataFault when absent. -/
def Obligations.ModeGetterLabelsTheCode : Prop :=
  (∀ s : State, issue 0x45 [] s = exec .sesGetMode s) ∧
  (∀ s : State, (∀ e ∈ s.session.table, e.index ≠ s.session.attrs.idxMode) →
    exec .sesGetMode s = .next { s with result := some (.fault (.staleData s.session.attrs.idxMode)) }) ∧
  (∀ (s : State) (e : FieldEntry), (s.session.table.map (·.index)).Nodup → e ∈ s.session.table →
    e.index = s.session.attrs.idxMode →
    exec .sesGetMode s = .next { s with result := some (
      if e.value = 0 then .label "5/2 day" else if e.value = 1 then .label "7 day"
      else .fault (.enum e.index e.value)) })

/-- R180, R210: code 0x46; the session's label of codes 0 to 4, EnumFault above (D18), StaleDataFault when absent. -/
def Obligations.SensorGetterLabelsTheCode : Prop :=
  (∀ s : State, issue 0x46 [] s = exec .sesGetSensor s) ∧
  (∀ s : State, (∀ e ∈ s.session.table, e.index ≠ s.session.attrs.idxSensor) →
    exec .sesGetSensor s = .next { s with result := some (.fault (.staleData s.session.attrs.idxSensor)) }) ∧
  (∀ (s : State) (e : FieldEntry) (h : e.value.toNat < 5), (s.session.table.map (·.index)).Nodup →
    e ∈ s.session.table → e.index = s.session.attrs.idxSensor →
    exec .sesGetSensor s = .next { s with result := some (.label s.session.attrs.sensorLabel[e.value.toNat]) }) ∧
  (∀ (s : State) (e : FieldEntry), 5 ≤ e.value.toNat → (s.session.table.map (·.index)).Nodup →
    e ∈ s.session.table → e.index = s.session.attrs.idxSensor →
    exec .sesGetSensor s = .next { s with result := some (.fault (.enum e.index e.value)) })

/-- R182, R183, R184, with DOC0's ranges: outside the range RangeFault and nothing sent; inside it the setter is SES.WRREG
of its register with the value, and it answers a next state when the adapter answers and the address is a byte. -/
def Obligations.SettersCheckTheirRange : Prop :=
  (∀ (s : State) (t : Int), issue 0x48 [.num t] s = exec (.sesSetTarget t) s ∧
    issue 0x49 [.num t] s = exec (.sesSetFrost t) s ∧ issue 0x4A [.num t] s = exec (.sesSetFloormax t) s) ∧
  (∀ (s : State) (t : Int), s.params.rangeTarget = ⟨5, 35⟩ →
    (t < 5 ∨ 35 < t → exec (.sesSetTarget t) s = .next { s with result := some (.fault (.range .target t)) }) ∧
    (5 ≤ t → t ≤ 35 → exec (.sesSetTarget t) s = exec (.sesWrreg s.session.attrs.regTarget t.toNat) s ∧
      (s.transport.silent = false → 0 ≤ s.session.busAddr → s.session.busAddr ≤ 255 →
        ∃ u, exec (.sesSetTarget t) s = .next u))) ∧
  (∀ (s : State) (t : Int), s.params.rangeFrost = ⟨7, 17⟩ →
    (t < 7 ∨ 17 < t → exec (.sesSetFrost t) s = .next { s with result := some (.fault (.range .frost t)) }) ∧
    (7 ≤ t → t ≤ 17 → exec (.sesSetFrost t) s = exec (.sesWrreg s.session.attrs.regFrost t.toNat) s ∧
      (s.transport.silent = false → 0 ≤ s.session.busAddr → s.session.busAddr ≤ 255 →
        ∃ u, exec (.sesSetFrost t) s = .next u))) ∧
  (∀ (s : State) (t : Int), s.params.rangeFloorMax = ⟨20, 45⟩ →
    (t < 20 ∨ 45 < t → exec (.sesSetFloormax t) s = .next { s with result := some (.fault (.range .floorMax t)) }) ∧
    (20 ≤ t → t ≤ 45 → exec (.sesSetFloormax t) s = exec (.sesWrreg s.session.attrs.regFloorMax t.toNat) s ∧
      (s.transport.silent = false → 0 ≤ s.session.busAddr → s.session.busAddr ≤ 255 →
        ∃ u, exec (.sesSetFloormax t) s = .next u)))

/-- R181, U6: the same for every value of the three range parameters. -/
def Obligations.SettersCheckAnyRange : Prop :=
  ∀ (s : State) (t : Int),
    ((t < s.params.rangeTarget.min ∨ s.params.rangeTarget.max < t →
        exec (.sesSetTarget t) s = .next { s with result := some (.fault (.range .target t)) }) ∧
      (s.params.rangeTarget.min ≤ t → t ≤ s.params.rangeTarget.max →
        exec (.sesSetTarget t) s = exec (.sesWrreg s.session.attrs.regTarget t.toNat) s ∧
        (s.transport.silent = false → 0 ≤ s.session.busAddr → s.session.busAddr ≤ 255 →
          ∃ u, exec (.sesSetTarget t) s = .next u))) ∧
    ((t < s.params.rangeFrost.min ∨ s.params.rangeFrost.max < t →
        exec (.sesSetFrost t) s = .next { s with result := some (.fault (.range .frost t)) }) ∧
      (s.params.rangeFrost.min ≤ t → t ≤ s.params.rangeFrost.max →
        exec (.sesSetFrost t) s = exec (.sesWrreg s.session.attrs.regFrost t.toNat) s ∧
        (s.transport.silent = false → 0 ≤ s.session.busAddr → s.session.busAddr ≤ 255 →
          ∃ u, exec (.sesSetFrost t) s = .next u))) ∧
    ((t < s.params.rangeFloorMax.min ∨ s.params.rangeFloorMax.max < t →
        exec (.sesSetFloormax t) s = .next { s with result := some (.fault (.range .floorMax t)) }) ∧
      (s.params.rangeFloorMax.min ≤ t → t ≤ s.params.rangeFloorMax.max →
        exec (.sesSetFloormax t) s = exec (.sesWrreg s.session.attrs.regFloorMax t.toNat) s ∧
        (s.transport.silent = false → 0 ≤ s.session.busAddr → s.session.busAddr ≤ 255 →
          ∃ u, exec (.sesSetFloormax t) s = .next u)))

/-- R173, R153, R176, R244: after a refresh that succeeded, SES.GET of every index of the layout answers the byte of the
reply just read at `index + offset`, under the layout's label, or StaleDataFault where the reply was too short. -/
def Obligations.RefreshThenGetReadsTheReply : Prop :=
  ∀ (s t : State) (bytes : List Byte) (fs : List FaultValue), s.session.Sound → s.nextAnswer = .reply bytes →
    exec .sesRefresh s = .next t → t.result = some (.ok fs) →
    ∀ e ∈ s.session.layout.fields,
      (0 ≤ (e.index : Int) + s.session.layout.offset →
        (e.index : Int) + s.session.layout.offset < (bytes.take s.session.maxReply.toNat).length →
        ∃ b : Byte, bytes[((e.index : Int) + s.session.layout.offset).toNat]? = some b ∧
          exec (.sesGet e.index) t = .next { t with result := some (.entry e.label b) }) ∧
      ((e.index : Int) + s.session.layout.offset < 0 ∨
        ((bytes.take s.session.maxReply.toNat).length : Int) ≤ e.index + s.session.layout.offset →
        exec (.sesGet e.index) t = .next { t with result := some (.fault (.staleData e.index)) })

/-- R242, R174: whatever SES.WRREG or a setter did, every getter still answers what it answered before. -/
def Obligations.WritesLeaveTheGettersAlone : Prop :=
  ∀ (s t : State) (i g : Instr), exec i s = .next t →
    (∃ r v, i = .sesWrreg r v) ∨ (∃ x, i = .sesSetTarget x ∨ i = .sesSetFrost x ∨ i = .sesSetFloormax x) →
    (∃ k, g = .sesGet k) ∨ g = .sesGetTarget ∨ g = .sesGetFloormax ∨ g = .sesGetMode ∨ g = .sesGetSensor →
    ∃ u w : State, exec g s = .next u ∧ exec g t = .next w ∧ w.result = u.result

/-! ### Frames of the wire -/

/-- R60, R101, R103; which effect a frame kind has as an input is log entry 8's: a request frame of the wire is answered
with the frame its rule builds, which is that frame itself. -/
def Obligations.RequestFrameKindsAreTheirBuild : Prop :=
  (∀ (s : State) (d x : Byte) (r : Half), ∃ (a : Option Accumulator) (f : List Byte),
    encode s.params (.reqframeRead d x r) = .requestFrame f ∧
    exec (.reqframeRead d x r) s = .next { s with acc := a, result := some (.frame f) } ∧
    f.take 4 = [d, 10, x, 0]) ∧
  (∀ (s : State) (d x : Byte) (r : Half) (pl : List Byte), pl.length ≤ 245 →
    ∃ (a : Option Accumulator) (f : List Byte),
    encode s.params (.reqframeWrite d x r pl) = .requestFrame f ∧
    exec (.reqframeWrite d x r pl) s = .next { s with acc := a, result := some (.frame f) } ∧
    f.take 4 = [d, BitVec.ofNat 8 f.length, x, 1])

/-- R60, R73, R120; which effect a frame kind has as an input is log entry 8's: a reply frame of the wire is judged by
RPY.VAL with the master address, the session's thermostat and the kind's function. -/
def Obligations.ReplyFrameKindsAreValidated : Prop :=
  (∀ (s : State) (th d ll lh x : Byte) (pl : List Byte) (cl ch : Byte), s.session.busAddr = th.toNat → ∃ u : State,
    exec (.rpyframeRead d ll lh x pl cl ch) s = .next u ∧
    exec (.rpyVal 129 th .read ([d, ll, lh, x, 0] ++ pl ++ [cl, ch])) s = .next u) ∧
  (∀ (s : State) (th d x cl ch : Byte), s.session.busAddr = th.toNat → ∃ u : State,
    exec (.rpyframeWriteack d x cl ch) s = .next u ∧
    exec (.rpyVal 129 th .write [d, 7, 0, x, 1, cl, ch]) s = .next u)

/-! ### The whole machine -/

/-- R17, R44, R150: an invariant every step keeps: every session's layout has distinct indices, and its Field Table is the
layout's field list with some entries left out, in the layout's order and under its labels; and no Transport Adapter is
listed twice (log entry 7). -/
def Obligations.StepKeepsTheFieldTableForm : Prop :=
  ∀ s t : State, s.Inv → step s = .next t → t.Inv

/-- The invariant holds at reset, whatever the script and the inputs placed there. -/
def Obligations.ResetMeetsTheFieldTableForm : Prop :=
  State.reset.Inv ∧ ∀ (k : Nat) (sc : List Scripted) (q : List Issue),
    ({ State.reset with adapters := [(k, { script := sc, drawn := 0, calls := [] })], pending := q } : State).Inv

/-- R23, R230 (D19): what reset leaves where the spec gives it: the accumulator unwritten and the Field Table empty, so that the
three operations on an unwritten accumulator and every getter answer their faults. -/
def Obligations.ResetLeavesNothingWritten : Prop :=
  State.reset.acc = none ∧ State.reset.session.table = [] ∧
  resultOf (exec .crcRd State.reset) = some (.fault .unwritten) ∧
  (∀ v, resultOf (exec (.crcNib v) State.reset) = some (.fault .unwritten)) ∧
  (∀ b, resultOf (exec (.crcByte b) State.reset) = some (.fault .unwritten)) ∧
  (∀ i, resultOf (exec (.sesGet i) State.reset) = some (.fault (.staleData i)))

/-- R10: "written by SES.REFRESH only": no other instruction changes the Field Table. -/
def Obligations.OnlyRefreshWritesTheFieldTable : Prop :=
  ∀ (i : Instr) (s t : State), exec i s = .next t → t.session.table ≠ s.session.table → i = .sesRefresh

/-- R10, R18, R22, R220: no instruction changes a session attribute, another session, a parameter or the caller's
inputs. -/
def Obligations.AttributesAndParametersAreConstant : Prop :=
  ∀ (i : Instr) (s t : State), exec i s = .next t →
    t.session.adapter = s.session.adapter ∧ t.session.busAddr = s.session.busAddr ∧ t.session.layout = s.session.layout ∧
    t.session.maxReply = s.session.maxReply ∧ t.session.attrs = s.session.attrs ∧
    t.others = s.others ∧ t.params = s.params ∧ t.pending = s.pending

/-- R170, R175, R186, R220: an instruction that makes no exchange leaves every Transport Adapter alone; one that does makes
no call, one write, or one write and then one read, on its own session's adapter and on no other. -/
def Obligations.OneExchangeAtMost : Prop :=
  ∀ (i : Instr) (s t : State), exec i s = .next t →
    (i.exchanges = false → t.adapters = s.adapters) ∧
    (t.adapters = s.adapters ∨ ∃ req, Exchanged s.transport t.transport [.write req] ∨
      Exchanged s.transport t.transport [.write req, .read s.session.maxReply.toNat]) ∧
    (∀ k : Nat, k ≠ s.session.adapter → readAdapter k t.adapters = readAdapter k s.adapters)

/-- R200: an operation that ends in a fault has written no persistent state. -/
def Obligations.FaultingOperationsWriteNothing : Prop :=
  ∀ (i : Instr) (s t : State) (f : FaultValue), exec i s = .next t → t.result = some (.fault f) →
    t.session = s.session ∧ t.others = s.others ∧ t.params = s.params ∧ t.pending = s.pending

/-- The model's reading of R12, R85, R100 and R133 (log entry 10): an operation that had a CRC computed inside leaves the
accumulator unwritten, and one that did not leaves it alone. -/
def Obligations.InnerCrcLeavesAccumulatorUnwritten : Prop :=
  (∀ (i : Instr) (s t : State) (d x : Byte) (r : Nat) (pl : List Byte),
    i = .reqRead d x r ∨ i = .reqWrite d x r pl → exec i s = .next t →
    (∀ f, t.result = some (.frame f) → t.acc = none) ∧ (∀ f, t.result = some (.fault f) → t.acc = s.acc)) ∧
  (∀ (s t : State) (d x : Byte) (f : Func) (raw : List Byte), exec (.rpyVal d x f raw) s = .next t →
    (2 ≤ raw.length → t.acc = none) ∧ (raw.length < 2 → t.acc = s.acc)) ∧
  (∀ s t : State, exec .sesRefresh s = .next t → t.acc = none) ∧
  (∀ (i : Instr) (s t : State), i.exchanges = true → exec i s = .next t →
    t.adapters ≠ s.adapters → t.acc = none)

/-- R186: "an explicit result for every operation": every instruction that does not stop hands the caller a result, and
none stops in a state that is safe for it. -/
def Obligations.EveryOperationAnswers : Prop :=
  (∀ (i : Instr) (s t : State), exec i s = .next t → t.result.isSome = true) ∧
  (∀ (i : Instr) (s : State), s.safeFor i → ∃ t : State, exec i s = .next t)

/-- R41: the result of an operation depends only on its operands, the parameters, the accumulator, its own session and the
answers of that session's adapter: not on earlier results, other sessions, other adapters or inputs still to come. -/
def Obligations.ResultsDependOnNothingElse : Prop :=
  ∀ (i : Instr) (s s' : State), s.acc = s'.acc → s.session = s'.session → s.transport = s'.transport →
    s.params = s'.params → resultOf (exec i s) = resultOf (exec i s')

/-- R100, R133, R154: the request builder, the reply validator and the field decoder read no state: their result depends
on their operands and the parameters only. -/
def Obligations.CodecAndDecoderReadNoState : Prop :=
  ∀ (i : Instr) (s s' : State), s.params = s'.params →
    (∃ d x r, i = .reqRead d x r) ∨ (∃ d x r pl, i = .reqWrite d x r pl) ∨ (∃ d x f raw, i = .rpyVal d x f raw) ∨
      (∃ raw k o, i = .fldGet raw k o) ∨ (∃ raw l, i = .fldDec raw l) →
    resultOf (exec i s) = resultOf (exec i s')

/-- R171, R208, R150: construction makes a session with an empty Field Table, on the adapter it is given and with any
integer as its address, the active one (log entry 13) and keeps the others; an unknown model makes none; a layout with a
repeated index is refused (D11). -/
def Obligations.ConstructionMakesAnEmptySession : Prop :=
  ∀ (s : State) (k : Nat) (m : Label) (l : Layout) (a : Int) (n : ReplySize) (x : SessionAttrs),
    ((l.fields.map (·.index)).Nodup → s.run (.construct k m (.found l) a n x) =
      .next { s with session := ⟨k, a, l, n, x, []⟩, others := s.session :: s.others, result := some (.ok []) }) ∧
    (¬ (l.fields.map (·.index)).Nodup →
      s.run (.construct k m (.found l) a n x) = .refused (.command (.repeatedIndex l))) ∧
    s.run (.construct k m .unknownModel a n x) = .next { s with result := some (.fault (.unknownModel m)) }

/-- R220 (log entry 13): an input that names a session runs on it, and no session is lost or changed by the choice. -/
def Obligations.ChoosingASessionKeepsThemAll : Prop :=
  ∀ (s : State) (k : Nat) (a : Int) (input : Input) (rest : List Issue),
    s.pending = ⟨some ⟨k, a⟩, input⟩ :: rest →
    ((∃ x ∈ s.session :: s.others, x.adapter = k ∧ x.busAddr = a) → ∃ u : State,
      u.session.adapter = k ∧ u.session.busAddr = a ∧ (u.session :: u.others).Perm (s.session :: s.others) ∧
      u = { s with session := u.session, others := u.others, pending := rest } ∧ step s = u.run input) ∧
    ((∀ x ∈ s.session :: s.others, ¬ (x.adapter = k ∧ x.busAddr = a)) → step s = .refused (.noSuchSession ⟨k, a⟩))

/-! ### Decoding and the step -/

/-- R60, R61, R70: decoding what an instruction encodes to gives it back, for every well-formed instruction, every operand
and every parameter. -/
def Obligations.DecodeOfEncodeIsIdentity : Prop :=
  ∀ (p : Params) (i : Instr), i.wf = true → decode p (encode p i) = .ok i

/-- R60: a frame decodes only to the instruction that encodes to exactly that frame: no byte of a frame is dropped. -/
def Obligations.FrameDecodingLosesNoByte : Prop :=
  ∀ (p : Params) (f : List Byte) (i : Instr),
    (decode p (.requestFrame f) = .ok i → encode p i = .requestFrame f ∧ i.wf = true) ∧
    (decode p (.replyFrame f) = .ok i → encode p i = .replyFrame f ∧ i.wf = true)

/-- R71, R211, R106, R120 (D20): a reserved operation code is refused whatever its operands; operands are refused exactly
when their number, kind or range is not what R70 lists for the code, a layout with a repeated index among them (R150); and
the code and the number a nibble's or a byte's refusal carries. Which of several operands is named is log entry 15's. -/
def Obligations.ReservedCodesAreRefused : Prop :=
  (∀ (s : State) (code : Byte) (ops : List Operand),
    code ∉ ([0x00, 0x01, 0x02, 0x03, 0x04, 0x05, 0x10, 0x11, 0x20, 0x30, 0x31, 0x40, 0x41, 0x42, 0x43, 0x44, 0x45,
      0x46, 0x48, 0x49, 0x4A] : List Byte) →
    issue code ops s = .refused (.command (.reservedCode code))) ∧
  (∀ (s : State) (code : Byte) (ts : List OperandType) (ops : List Operand), signature code = some ts →
    (¬ List.Forall₂ (fun t o => admits t o = true) ts ops → ∃ r, issue code ops s = .refused (.command r)) ∧
    (List.Forall₂ (fun t o => admits t o = true) ts ops →
      ∃ i, decode s.params (.operation code ops) = .ok i ∧ issue code ops s = exec i s)) ∧
  (∀ (s : State) (z : Int), z < 0 ∨ 15 < z → issue 0x01 [.num z] s = .refused (.command (.operandRange 0x01 z))) ∧
  (∀ (s : State) (z : Int), z < 0 ∨ 255 < z → issue 0x02 [.num z] s = .refused (.command (.operandRange 0x02 z)))

/-- R70, R60: a few words of the opcode table decode to the instruction they stand for. -/
def Obligations.SampleWordsDecode : Prop :=
  decodeTableWord 8 0b00000000 = some .crcInit ∧ decodeTableWord 8 0b00000011 = some .crcRd ∧
  decode defaultParams (.operation 0b00010000 [.num 1, .num 0x81, .num 18]) = .ok (.reqRead 1 0x81 18) ∧
  decode defaultParams (.operation 0b00100000 [.num 0x81, .num 1, .num 1, .bytes []]) = .ok (.rpyVal 0x81 1 .write []) ∧
  decode defaultParams (.operation 0b00110000 [.bytes [], .num 2, .num (-3)]) = .ok (.fldGet [] 2 (-3)) ∧
  decodeTableWord 8 0b01000000 = some .sesRefresh ∧
  decode defaultParams (.replyFrame [0x81, 0x07, 0x00, 0x01, 0x01, 0xB0, 0xEB]) =
    .ok (.rpyframeWriteack 0x81 0x01 0xB0 0xEB) ∧
  decode defaultParams (.requestFrame [0x01, 0x0A, 0x81, 0x00, 0x00, 0x00, 0xFF, 0xFF, 0x2C, 0x09]) =
    .ok (.reqframeRead 0x01 0x81 0)

/-- R6, R41; the list of inputs is log entry 5's: a step runs the caller's oldest input, whatever it is, on the state with
that input taken off the list; when it decodes to an instruction, the step is that instruction's meaning; with no input the
block is idle. -/
def Obligations.StepRunsTheDecodedInstruction : Prop :=
  (∀ (s : State) (input : Input) (rest : List Issue), s.pending = ⟨none, input⟩ :: rest →
    step s = ({ s with pending := rest } : State).run input) ∧
  (∀ (s : State) (e : Encoded) (i : Instr) (rest : List Issue), s.pending = ⟨none, .instr e⟩ :: rest →
    decode s.params e = .ok i → step s = exec i { s with pending := rest }) ∧
  (∀ (s : State) (e : Encoded) (r : Reject) (rest : List Issue), s.pending = ⟨none, .instr e⟩ :: rest →
    decode s.params e = .error r → step s = .refused (.command r)) ∧
  (∀ s : State, s.pending = [] → step s = .next s)
end

