-- ==== Sys2Proof/Laws/State.lean ====
section
/-! SUPPORT. One lemma per field of State per named update, true by definition, so that no proof unfolds a record update. -/

namespace Sys2Proof.Machine

variable (s : State)

@[simp] theorem State.answer_acc (r : Result) : (s.answer r).acc = s.acc := rfl
@[simp] theorem State.answer_session (r : Result) : (s.answer r).session = s.session := rfl
@[simp] theorem State.answer_others (r : Result) : (s.answer r).others = s.others := rfl
@[simp] theorem State.answer_result (r : Result) : (s.answer r).result = some r := rfl
@[simp] theorem State.answer_transport (r : Result) : (s.answer r).transport = s.transport := rfl
@[simp] theorem State.answer_adapters (r : Result) : (s.answer r).adapters = s.adapters := rfl
@[simp] theorem State.answer_params (r : Result) : (s.answer r).params = s.params := rfl
@[simp] theorem State.answer_pending (r : Result) : (s.answer r).pending = s.pending := rfl

@[simp] theorem State.raise_acc (f : FaultValue) : (s.raise f).acc = s.acc := rfl
@[simp] theorem State.raise_session (f : FaultValue) : (s.raise f).session = s.session := rfl
@[simp] theorem State.raise_others (f : FaultValue) : (s.raise f).others = s.others := rfl
@[simp] theorem State.raise_result (f : FaultValue) : (s.raise f).result = some (.fault f) := rfl
@[simp] theorem State.raise_transport (f : FaultValue) : (s.raise f).transport = s.transport := rfl
@[simp] theorem State.raise_adapters (f : FaultValue) : (s.raise f).adapters = s.adapters := rfl
@[simp] theorem State.raise_params (f : FaultValue) : (s.raise f).params = s.params := rfl
@[simp] theorem State.raise_pending (f : FaultValue) : (s.raise f).pending = s.pending := rfl

@[simp] theorem State.setAcc_acc (a : Option Accumulator) : (s.setAcc a).acc = a := rfl
@[simp] theorem State.setAcc_session (a : Option Accumulator) : (s.setAcc a).session = s.session := rfl
@[simp] theorem State.setAcc_others (a : Option Accumulator) : (s.setAcc a).others = s.others := rfl
@[simp] theorem State.setAcc_result (a : Option Accumulator) : (s.setAcc a).result = s.result := rfl
@[simp] theorem State.setAcc_transport (a : Option Accumulator) : (s.setAcc a).transport = s.transport := rfl
@[simp] theorem State.setAcc_adapters (a : Option Accumulator) : (s.setAcc a).adapters = s.adapters := rfl
@[simp] theorem State.setAcc_params (a : Option Accumulator) : (s.setAcc a).params = s.params := rfl
@[simp] theorem State.setAcc_pending (a : Option Accumulator) : (s.setAcc a).pending = s.pending := rfl

@[simp] theorem State.setTable_acc (x : FieldTable) : (s.setTable x).acc = s.acc := rfl
@[simp] theorem State.setTable_session (x : FieldTable) : (s.setTable x).session = { s.session with table := x } := rfl
@[simp] theorem State.setTable_others (x : FieldTable) : (s.setTable x).others = s.others := rfl
@[simp] theorem State.setTable_result (x : FieldTable) : (s.setTable x).result = s.result := rfl
@[simp] theorem State.setTable_transport (x : FieldTable) : (s.setTable x).transport = s.transport := rfl
@[simp] theorem State.setTable_adapters (x : FieldTable) : (s.setTable x).adapters = s.adapters := rfl
@[simp] theorem State.setTable_params (x : FieldTable) : (s.setTable x).params = s.params := rfl
@[simp] theorem State.setTable_pending (x : FieldTable) : (s.setTable x).pending = s.pending := rfl

@[simp] theorem State.setTransport_acc (x : Transport) : (s.setTransport x).acc = s.acc := rfl
@[simp] theorem State.setTransport_session (x : Transport) : (s.setTransport x).session = s.session := rfl
@[simp] theorem State.setTransport_others (x : Transport) : (s.setTransport x).others = s.others := rfl
@[simp] theorem State.setTransport_result (x : Transport) : (s.setTransport x).result = s.result := rfl
@[simp] theorem State.setTransport_adapters (x : Transport) :
    (s.setTransport x).adapters = writeAdapter s.session.adapter x s.adapters := rfl
@[simp] theorem State.setTransport_params (x : Transport) : (s.setTransport x).params = s.params := rfl
@[simp] theorem State.setTransport_pending (x : Transport) : (s.setTransport x).pending = s.pending := rfl

@[simp] theorem State.setPending_acc (l : List Issue) : (s.setPending l).acc = s.acc := rfl
@[simp] theorem State.setPending_session (l : List Issue) : (s.setPending l).session = s.session := rfl
@[simp] theorem State.setPending_others (l : List Issue) : (s.setPending l).others = s.others := rfl
@[simp] theorem State.setPending_result (l : List Issue) : (s.setPending l).result = s.result := rfl
@[simp] theorem State.setPending_transport (l : List Issue) : (s.setPending l).transport = s.transport := rfl
@[simp] theorem State.setPending_adapters (l : List Issue) : (s.setPending l).adapters = s.adapters := rfl
@[simp] theorem State.setPending_params (l : List Issue) : (s.setPending l).params = s.params := rfl
@[simp] theorem State.setPending_pending (l : List Issue) : (s.setPending l).pending = l := rfl

@[simp] theorem State.answer_answer (q r : Result) : (s.answer q).answer r = s.answer r := rfl

@[simp] theorem State.answer_nextAnswer (r : Result) : (s.answer r).nextAnswer = s.nextAnswer := rfl
@[simp] theorem State.setAcc_nextAnswer (a : Option Accumulator) : (s.setAcc a).nextAnswer = s.nextAnswer := rfl
@[simp] theorem State.setPending_nextAnswer (l : List Issue) : (s.setPending l).nextAnswer = s.nextAnswer := rfl

/-- Reading the adapter just written. -/
@[simp] theorem readAdapter_writeAdapter_same (k : Nat) (t : Transport) (l : List (Nat × Transport)) :
    readAdapter k (writeAdapter k t l) = t := by
  induction l with
  | nil => simp [writeAdapter, readAdapter]
  | cons x xs ih =>
    simp only [writeAdapter]
    split <;> simp_all [readAdapter]

/-- Every other adapter stays as it was. -/
theorem readAdapter_writeAdapter_other {j k : Nat} (h : j ≠ k) (t : Transport) (l : List (Nat × Transport)) :
    readAdapter j (writeAdapter k t l) = readAdapter j l := by
  induction l with
  | nil => simp [writeAdapter, readAdapter, h.symm]
  | cons x xs ih =>
    obtain ⟨i, u⟩ := x
    simp only [writeAdapter]
    split
    · rename_i e
      simp [readAdapter, e, h.symm]
    · simp only [readAdapter, ih]

/-- The adapters listed after a write: those listed before, and the one written. -/
theorem writeAdapter_keys (k : Nat) (t : Transport) (l : List (Nat × Transport)) (j : Nat) :
    j ∈ (writeAdapter k t l).map Prod.fst ↔ j = k ∨ j ∈ l.map Prod.fst := by
  induction l with
  | nil => simp [writeAdapter]
  | cons x xs ih =>
    obtain ⟨i, u⟩ := x
    simp only [writeAdapter]
    split
    · rename_i e
      subst e
      simp
    · rw [List.map_cons, List.mem_cons, ih, List.map_cons, List.mem_cons, or_left_comm]

/-- A write lists no adapter twice. -/
theorem writeAdapter_nodup (k : Nat) (t : Transport) {l : List (Nat × Transport)} (h : (l.map Prod.fst).Nodup) :
    ((writeAdapter k t l).map Prod.fst).Nodup := by
  induction l with
  | nil => simp [writeAdapter]
  | cons x xs ih =>
    obtain ⟨i, u⟩ := x
    rw [List.map_cons, List.nodup_cons] at h
    simp only [writeAdapter]
    split
    · rename_i e
      subst e
      simpa using h
    · rename_i e
      rw [List.map_cons, List.nodup_cons, writeAdapter_keys]
      exact ⟨fun hm => hm.elim e h.1, ih h.2⟩

@[simp] theorem State.setTransport_transport (x : Transport) : (s.setTransport x).transport = x :=
  readAdapter_writeAdapter_same _ _ _

@[simp] theorem Session.new_adapter (k : Nat) (a : Int) (l : Layout) (m : ReplySize) (x : SessionAttrs) :
    (Session.new k a l m x).adapter = k := rfl

@[simp] theorem Session.new_table (k : Nat) (a : Int) (l : Layout) (m : ReplySize) (x : SessionAttrs) :
    (Session.new k a l m x).table = [] := rfl

@[simp] theorem Session.new_layout (k : Nat) (a : Int) (l : Layout) (m : ReplySize) (x : SessionAttrs) :
    (Session.new k a l m x).layout = l := rfl

@[simp] theorem Session.new_busAddr (k : Nat) (a : Int) (l : Layout) (m : ReplySize) (x : SessionAttrs) :
    (Session.new k a l m x).busAddr = a := rfl

end Sys2Proof.Machine
end

