-- ==== Sys2Proof/Laws/Frames.lean ====
section
/-! SUPPORT. The small lemmas of the pure functions: bits, the checksum fold, frame bytes, field reads and the status
bits. -/

namespace Sys2Proof

@[simp] theorem highNibble_toNat (b : Byte) : (highNibble b).toNat = b.toNat / 16 := by
  simp [highNibble, Nat.shiftRight_eq_div_pow]; omega

@[simp] theorem lowNibble_toNat (b : Byte) : (lowNibble b).toNat = b.toNat % 16 := by simp [lowNibble]

@[simp] theorem lo8_toNat (w : Half) : (lo8 w).toNat = w.toNat % 256 := by simp [lo8]

@[simp] theorem hi8_toNat (w : Half) : (hi8 w).toNat = w.toNat / 256 := by
  simp [hi8, Nat.shiftRight_eq_div_pow]; omega

@[simp] theorem le16_toNat (lo hi : Byte) : (le16 lo hi).toNat = lo.toNat + 256 * hi.toNat := by
  have hl := lo.isLt
  have hh := hi.isLt
  have e : (le16 lo hi).toNat = lo.toNat ||| (hi.toNat <<< 8) := by
    simp only [le16, BitVec.toNat_or, BitVec.toNat_setWidth, BitVec.toNat_shiftLeft]
    rw [Nat.mod_eq_of_lt (show lo.toNat < 2 ^ 16 by omega), Nat.mod_eq_of_lt (show hi.toNat < 2 ^ 16 by omega),
      Nat.mod_eq_of_lt (show hi.toNat <<< 8 < 2 ^ 16 by rw [Nat.shiftLeft_eq]; omega)]
  rw [e, Nat.shiftLeft_eq, Nat.mul_comm, Nat.or_comm, ← Nat.two_pow_add_eq_or_of_lt hl]
  omega

/-- Everything that makes an integer a byte (R106). -/
theorem byteOf_cases (z : Int) :
    (∃ a : Byte, z = a.toNat ∧ byteOf z = some a) ∨ ((z < 0 ∨ 255 < z) ∧ byteOf z = none) := by
  unfold byteOf
  split
  · refine .inl ⟨_, ?_, rfl⟩
    simp; omega
  · exact .inr ⟨by omega, rfl⟩

@[simp] theorem byteOf_toNat (a : Byte) : byteOf (a.toNat : Int) = some a := by
  have := a.isLt
  simp [byteOf]; omega

theorem byteOf_outside {z : Int} (h : z < 0 ∨ 255 < z) : byteOf z = none := by
  unfold byteOf
  rw [if_neg (by omega)]

@[simp] theorem le16_lo8_hi8 (w : Half) : le16 (lo8 w) (hi8 w) = w := by
  apply BitVec.eq_of_toNat_eq
  simp; omega

/-- A layout is well formed exactly when its indices are distinct (R150). -/
theorem Layout.wf_iff (l : Layout) : l.wf = true ↔ (l.fields.map (·.index)).Nodup := decide_eq_true_iff

theorem Layout.wf_eq_false_iff (l : Layout) : l.wf = false ↔ ¬ (l.fields.map (·.index)).Nodup := decide_eq_false_iff_not

/-! ### The checksum fold -/

@[simp] theorem crcFrom_nil (p : Params) (a : Accumulator) : crcFrom p a [] = a := rfl

@[simp] theorem crcFrom_cons (p : Params) (a : Accumulator) (b : Byte) (bs : List Byte) :
    crcFrom p a (b :: bs) = crcFrom p (crcByte p b a) bs := rfl

/-- The fold over a concatenation is the fold over the second part from where the first ended. -/
theorem crcFrom_append (p : Params) (a : Accumulator) (m m' : List Byte) :
    crcFrom p a (m ++ m') = crcFrom p (crcFrom p a m) m' := by
  induction m generalizing a with
  | nil => rfl
  | cons b bs ih => simp [ih]

/-- `crcVerify` answers true on exactly the computed pair, low byte first (R86). -/
theorem crcVerify_iff (p : Params) (m t : List Byte) : crcVerify p m t = true ↔ t = (crcRun p m).trailer := by
  unfold crcVerify Accumulator.trailer
  split <;> simp_all

/-! ### Frame bytes -/

@[simp] theorem Func.code_read : Func.read.code = 0 := rfl
@[simp] theorem Func.code_write : Func.write.code = 1 := rfl

theorem Func.code_injective {f g : Func} (h : f.code = g.code) : f = g := by
  cases f <;> cases g <;> first | rfl | (exfalso; revert h; decide)

@[simp] theorem Accumulator.trailer_length (a : Accumulator) : a.trailer.length = 2 := rfl

@[simp] theorem requestHeader_length (d n s : Byte) (f : Func) (r l : Half) :
    (requestHeader d n s f r l).length = 8 := rfl

@[simp] theorem withTrailer_length (p : Params) (m : List Byte) : (withTrailer p m).length = m.length + 2 := by
  simp [withTrailer]

@[simp] theorem readFrame_length (p : Params) (d s : Byte) (r : Half) : (readFrame p d s r).length = 10 := by
  simp [readFrame]

@[simp] theorem writeFrame_length (p : Params) (d s : Byte) (r : Half) (pl : List Byte) :
    (writeFrame p d s r pl).length = 10 + pl.length := by simp [writeFrame]; omega

@[simp] theorem bodyOf_append_pair (m : List Byte) (a b : Byte) : bodyOf (m ++ [a, b]) = m := by simp [bodyOf]

@[simp] theorem trailerOf_append_pair (m : List Byte) (a b : Byte) : trailerOf (m ++ [a, b]) = [a, b] := by
  simp [trailerOf]

theorem bodyOf_append_trailerOf (f : List Byte) : bodyOf f ++ trailerOf f = f := by simp [bodyOf, trailerOf]

@[simp] theorem bodyOf_withTrailer (p : Params) (m : List Byte) : bodyOf (withTrailer p m) = m := by
  simp [withTrailer, Accumulator.trailer]

@[simp] theorem trailerOf_withTrailer (p : Params) (m : List Byte) :
    trailerOf (withTrailer p m) = (crcRun p m).trailer := by
  simp [withTrailer, Accumulator.trailer]

end Sys2Proof

namespace Sys2Proof.Machine

/-! ### Field reads -/

theorem memRead_eq (s : List Byte) (i : Nat) : memRead s i = s[i]? := by
  simp [memRead]

@[simp] theorem memRead_zero (s : List Byte) : memRead s 0 = s[0]? := rfl
@[simp] theorem memRead_three (s : List Byte) : memRead s 3 = s[3]? := rfl
@[simp] theorem memRead_four (s : List Byte) : memRead s 4 = s[4]? := rfl

/-- The declared length of a reply is present when bytes 1 and 2 are (R15). -/
@[simp] theorem memRead16_one (s : List Byte) :
    memRead16 s 1 = match s[1]?, s[2]? with
      | some lo, some hi => some (le16 lo hi)
      | _, _ => none := rfl

@[simp] theorem memRead_neg (s : List Byte) (i : Int) (h : i < 0) : memRead s i = none := by simp [memRead, h]

/-- A read is present exactly in bounds (R35). -/
theorem memRead_isSome (s : List Byte) (i : Int) : (memRead s i).isSome = true ↔ 0 ≤ i ∧ i < s.length := by
  unfold memRead
  split <;> simp <;> omega

/-- What FLD.DEC's table holds, as one filter over the layout (R152). -/
theorem decodeTable_eq (raw : List Byte) (o : Int) (ds : List FieldDecl) :
    decodeTable raw o ds =
      ds.filterMap (fun d => (fieldByte raw d.index o).map (fun v => ⟨d.index, d.label, v⟩)) := by
  induction ds with
  | nil => rfl
  | cons d ds ih =>
    cases h : fieldByte raw d.index o <;> simp [decodeTable, h, ih]

/-- What FLD.DEC reports, as one filter over the layout (R152). -/
theorem decodeFaults_eq (raw : List Byte) (o : Int) (ds : List FieldDecl) :
    decodeFaults raw o ds =
      (ds.filter (fun d => (fieldByte raw d.index o).isNone)).map (fun d => .decode d.index) := by
  induction ds with
  | nil => rfl
  | cons d ds ih =>
    cases h : fieldByte raw d.index o <;> simp [decodeFaults, h, ih]

/-- The table FLD.DEC builds is the layout's field list with some entries left out (R17, R152). -/
theorem decodeTable_sublist (raw : List Byte) (o : Int) (ds : List FieldDecl) :
    ((decodeTable raw o ds).map FieldEntry.decl).Sublist ds := by
  induction ds with
  | nil => exact List.Sublist.refl []
  | cons d ds ih =>
    cases h : fieldByte raw d.index o with
    | none => simpa [decodeTable, h] using ih.cons d
    | some v => simpa [decodeTable, h, FieldEntry.decl] using ih.cons_cons d

/-! ### Status bits -/

section
variable (p : Params) (d s : Byte) (f : Func) (raw : List Byte)

/-- Bit `k` of VSTAT is the `k`-th rule of the list (R14). -/
theorem vstatOf_getLsbD (k : Nat) :
    (vstatOf p d s f raw).getLsbD k =
      [violatesV1 p raw, violatesV2 raw, violatesV3 d raw, violatesV4 raw, violatesV5 s raw, violatesV6 raw,
        violatesV7 f raw, violatesV8 raw, violatesV9 raw].getD k false :=
  BitVec.getLsbD_ofBoolListLE

@[simp] theorem vstatOf_bit0 : (vstatOf p d s f raw)[0] = violatesV1 p raw := vstatOf_getLsbD p d s f raw 0
@[simp] theorem vstatOf_bit1 : (vstatOf p d s f raw)[1] = violatesV2 raw := vstatOf_getLsbD p d s f raw 1
@[simp] theorem vstatOf_bit2 : (vstatOf p d s f raw)[2] = violatesV3 d raw := vstatOf_getLsbD p d s f raw 2
@[simp] theorem vstatOf_bit3 : (vstatOf p d s f raw)[3] = violatesV4 raw := vstatOf_getLsbD p d s f raw 3
@[simp] theorem vstatOf_bit4 : (vstatOf p d s f raw)[4] = violatesV5 s raw := vstatOf_getLsbD p d s f raw 4
@[simp] theorem vstatOf_bit5 : (vstatOf p d s f raw)[5] = violatesV6 raw := vstatOf_getLsbD p d s f raw 5
@[simp] theorem vstatOf_bit6 : (vstatOf p d s f raw)[6] = violatesV7 f raw := vstatOf_getLsbD p d s f raw 6
@[simp] theorem vstatOf_bit7 : (vstatOf p d s f raw)[7] = violatesV8 raw := vstatOf_getLsbD p d s f raw 7
@[simp] theorem vstatOf_bit8 : (vstatOf p d s f raw)[8] = violatesV9 raw := vstatOf_getLsbD p d s f raw 8

/-- A frame is valid exactly when it violates no rule (R132). -/
theorem validate_valid_iff :
    (validate p d s f raw).valid = true ↔
      violatesV1 p raw = false ∧ violatesV2 raw = false ∧ violatesV3 d raw = false ∧ violatesV4 raw = false ∧
      violatesV5 s raw = false ∧ violatesV6 raw = false ∧ violatesV7 f raw = false ∧ violatesV8 raw = false ∧
      violatesV9 raw = false := by
  have e : ((validate p d s f raw).valid = true) = (vstatOf p d s f raw = 0#9) := by
    simp [ValidationRecord.valid, validate]
  rw [e]
  constructor
  · intro h
    refine ⟨?_, ?_, ?_, ?_, ?_, ?_, ?_, ?_, ?_⟩
    · rw [← vstatOf_bit0 p d s f raw, h]; rfl
    · rw [← vstatOf_bit1 p d s f raw, h]; rfl
    · rw [← vstatOf_bit2 p d s f raw, h]; rfl
    · rw [← vstatOf_bit3 p d s f raw, h]; rfl
    · rw [← vstatOf_bit4 p d s f raw, h]; rfl
    · rw [← vstatOf_bit5 p d s f raw, h]; rfl
    · rw [← vstatOf_bit6 p d s f raw, h]; rfl
    · rw [← vstatOf_bit7 p d s f raw, h]; rfl
    · rw [← vstatOf_bit8 p d s f raw, h]; rfl
  · rintro ⟨h0, h1, h2, h3, h4, h5, h6, h7, h8⟩
    unfold vstatOf
    rw [h0, h1, h2, h3, h4, h5, h6, h7, h8]
    rfl

end

@[simp] theorem validate_raw (p : Params) (d s : Byte) (f : Func) (raw : List Byte) :
    (validate p d s f raw).raw = raw := rfl

@[simp] theorem validate_vstat (p : Params) (d s : Byte) (f : Func) (raw : List Byte) :
    (validate p d s f raw).vstat = vstatOf p d s f raw := rfl

end Sys2Proof.Machine
end

