-- ==== Sys2Proof/Laws/Ops.lean ====
section
/-! SUPPORT. One lemma per shared operation, saying once everything it can do. -/

namespace Sys2Proof.Machine

theorem State.feed_unwritten {s : State} (f : Accumulator → Accumulator) (h : s.acc = none) :
    s.feed f = s.raise .unwritten := by simp [State.feed, h]

theorem State.feed_written {s : State} {a : Accumulator} (f : Accumulator → Accumulator) (h : s.acc = some a) :
    s.feed f = (s.setAcc (some (f a))).answer .done := by simp [State.feed, h]

@[simp] theorem State.deliver_ok (s : State) (f : List Byte) :
    s.deliver (.ok f) = (s.setAcc none).answer (.frame f) := rfl

@[simp] theorem State.deliver_error (s : State) (c : BuildCause) : s.deliver (.error c) = s.raise (.build c) := rfl

/-- What the read builder can do (R101, R104). -/
theorem buildRead_cases (p : Params) (d s : Byte) (r : Nat) :
    (r ≤ 0xFFFF ∧ buildRead p d s r = .ok (readFrame p d s (BitVec.ofNat 16 r))) ∨
      (0xFFFF < r ∧ buildRead p d s r = .error .startRegisterTooWide) := by
  unfold buildRead
  split
  · exact .inr ⟨‹_›, rfl⟩
  · exact .inl ⟨by omega, rfl⟩

/-- What the write builder can do (R103, R104, R105). -/
theorem buildWrite_cases (p : Params) (d s : Byte) (r : Nat) (pl : List Byte) :
    (r ≤ 0xFFFF ∧ pl.length ≤ 245 ∧ buildWrite p d s r pl = .ok (writeFrame p d s (BitVec.ofNat 16 r) pl)) ∨
      (0xFFFF < r ∧ buildWrite p d s r pl = .error .startRegisterTooWide) ∨
      (r ≤ 0xFFFF ∧ 245 < pl.length ∧ buildWrite p d s r pl = .error .payloadTooLong) := by
  unfold buildWrite maxPayload
  split
  · exact .inr (.inl ⟨‹_›, rfl⟩)
  · split
    · exact .inr (.inr ⟨by omega, ‹_›, rfl⟩)
    · exact .inl ⟨by omega, by omega, rfl⟩

/-- RPY.VAL's answer changes the accumulator and the result, nothing else. -/
theorem State.validateReply_eq (d x : Byte) (f : Func) (raw : List Byte) (s : State) :
    s.validateReply d x f raw =
      { s with acc := if 2 ≤ raw.length then none else s.acc,
               result := some (.validation (validate s.params d x f raw)) } := by
  unfold State.validateReply
  split <;> rfl

/-- The calls of one exchange (R175): one write, then at most one read. -/
theorem Transport.after_calls (t : Transport) (made : List TransportCall) :
    (t.after made).calls = t.calls ++ made := by
  unfold Transport.after
  split <;> rfl

/-- An exchange uses up the script's oldest answer, if there is one. -/
theorem Transport.after_script (t : Transport) (made : List TransportCall) :
    (t.after made).script = t.script.tail := by
  unfold Transport.after
  split <;> simp_all

/-- An exchange with the script used up counts one free answer. -/
theorem Transport.after_drawn (t : Transport) (made : List TransportCall) :
    (t.after made).drawn = if t.script = [] then t.drawn + 1 else t.drawn := by
  unfold Transport.after
  split <;> simp_all

/-- Everything an exchange can do (R172, R175). -/
theorem State.exchange_cases (s : State) (req : List Byte) :
    (∃ e, s.nextAnswer = .writeFault e ∧ s.exchange req = (s.transport.after [.write req], .error e)) ∨
      (∃ e, s.nextAnswer = .readFault e ∧
        s.exchange req = (s.transport.after [.write req, .read s.session.maxReply.toNat], .error e)) ∨
      (∃ bs, s.nextAnswer = .reply bs ∧
        s.exchange req = (s.transport.after [.write req, .read s.session.maxReply.toNat],
          .ok (bs.take s.session.maxReply.toNat))) := by
  unfold State.exchange
  cases h : s.nextAnswer with
  | writeFault e => exact .inl ⟨e, rfl, rfl⟩
  | readFault e => exact .inr (.inl ⟨e, rfl, rfl⟩)
  | reply bs => exact .inr (.inr ⟨bs, rfl, rfl⟩)

/-- A read answers at most the bytes asked for (R172). -/
theorem State.exchange_length {s : State} {t : Transport} {req raw : List Byte}
    (h : s.exchange req = (t, .ok raw)) : raw.length ≤ s.session.maxReply.toNat := by
  obtain ⟨e, -, h'⟩ | ⟨e, -, h'⟩ | ⟨bs, -, h'⟩ := s.exchange_cases req <;> rw [h'] at h <;> cases h
  exact List.length_take_le _ _

theorem State.roundTrip_writeFault {s : State} {func : Func} {a : Byte} {req : List Byte} {e : Label}
    (done : List Byte → State → State) (h : s.nextAnswer = .writeFault e) :
    s.roundTrip func a req done =
      ((s.setAcc none).setTransport (s.transport.after [.write req])).raise (.io e) := by
  simp [State.roundTrip, State.exchange, h]

theorem State.roundTrip_readFault {s : State} {func : Func} {a : Byte} {req : List Byte} {e : Label}
    (done : List Byte → State → State) (h : s.nextAnswer = .readFault e) :
    s.roundTrip func a req done =
      ((s.setAcc none).setTransport
        (s.transport.after [.write req, .read s.session.maxReply.toNat])).raise (.io e) := by
  simp [State.roundTrip, State.exchange, h]

theorem State.roundTrip_invalid {s : State} {func : Func} {a : Byte} {req bs : List Byte}
    (done : List Byte → State → State) (h : s.nextAnswer = .reply bs)
    (hv : (validate s.params masterAddr a func (bs.take s.session.maxReply.toNat)).valid = false) :
    s.roundTrip func a req done =
      ((s.setAcc none).setTransport
        (s.transport.after [.write req, .read s.session.maxReply.toNat])).raise
        (replyFault (validate s.params masterAddr a func (bs.take s.session.maxReply.toNat))) := by
  simp [State.roundTrip, State.exchange, h, hv]

theorem State.roundTrip_valid {s : State} {func : Func} {a : Byte} {req bs : List Byte}
    (done : List Byte → State → State) (h : s.nextAnswer = .reply bs)
    (hv : (validate s.params masterAddr a func (bs.take s.session.maxReply.toNat)).valid = true) :
    s.roundTrip func a req done =
      done (bs.take s.session.maxReply.toNat)
        ((s.setAcc none).setTransport (s.transport.after [.write req, .read s.session.maxReply.toNat])) := by
  simp [State.roundTrip, State.exchange, h, hv]

/-- Everything a round trip can do (R173, R174): one exchange, then raise a fault, or go on after a valid reply. -/
theorem State.roundTrip_cases (s : State) (func : Func) (a : Byte) (req : List Byte)
    (done : List Byte → State → State) :
    ∃ made : List TransportCall,
      (made = [.write req] ∨ made = [.write req, .read s.session.maxReply.toNat]) ∧
      ((∃ f, s.roundTrip func a req done = ((s.setAcc none).setTransport (s.transport.after made)).raise f) ∨
        (∃ raw, s.roundTrip func a req done = done raw ((s.setAcc none).setTransport (s.transport.after made)) ∧
          (validate s.params masterAddr a func raw).valid = true)) := by
  cases h : s.nextAnswer with
  | writeFault e => exact ⟨_, .inl rfl, .inl ⟨_, State.roundTrip_writeFault done h⟩⟩
  | readFault e => exact ⟨_, .inr rfl, .inl ⟨_, State.roundTrip_readFault done h⟩⟩
  | reply bs =>
    cases hv : (validate s.params masterAddr a func (bs.take s.session.maxReply.toNat)).valid with
    | false => exact ⟨_, .inr rfl, .inl ⟨_, State.roundTrip_invalid done h hv⟩⟩
    | true => exact ⟨_, .inr rfl, .inr ⟨_, State.roundTrip_valid done h hv, hv⟩⟩

theorem State.withThermostat_byte {s : State} {a : Byte} (c : Byte) (k : Byte → Host.Outcome State Fault Refusal)
    (h : s.session.busAddr = a.toNat) : s.withThermostat c k = k a := by
  simp [State.withThermostat, h]

theorem State.withThermostat_outside {s : State} (c : Byte) (k : Byte → Host.Outcome State Fault Refusal)
    (h : s.session.busAddr < 0 ∨ 255 < s.session.busAddr) :
    s.withThermostat c k = .refused (.command (.operandRange c s.session.busAddr)) := by
  simp [State.withThermostat, byteOf_outside h]

/-- Everything a session's address can do as an operand (R106). -/
theorem State.withThermostat_cases (s : State) (c : Byte) (k : Byte → Host.Outcome State Fault Refusal) :
    (∃ a : Byte, s.session.busAddr = a.toNat ∧ s.withThermostat c k = k a) ∨
      ((s.session.busAddr < 0 ∨ 255 < s.session.busAddr) ∧
        s.withThermostat c k = .refused (.command (.operandRange c s.session.busAddr))) := by
  obtain ⟨a, h, -⟩ | ⟨h, -⟩ := byteOf_cases s.session.busAddr
  · exact .inl ⟨a, h, State.withThermostat_byte c k h⟩
  · exact .inr ⟨h, State.withThermostat_outside c k h⟩

theorem State.unlessSilent_of_not {s s' : State} (h : s.transport.silent = false) : s.unlessSilent s' = .next s' := by
  simp [State.unlessSilent, h]

theorem State.unlessSilent_of_silent {s s' : State} (h : s.transport.silent = true) :
    s.unlessSilent s' = .fault .transportHang := by
  simp [State.unlessSilent, h]

/-- An exchange answers a next state only when the adapter answers. -/
theorem State.unlessSilent_next {s s' t : State} (h : s.unlessSilent s' = .next t) :
    s.transport.silent = false ∧ t = s' := by
  unfold State.unlessSilent at h
  split at h <;> simp_all

/-- Everything SES.WRREG's steps can do (R174). -/
theorem State.writeRegister_cases (s : State) (r v : Nat) :
    (255 < v ∧ s.writeRegister r v = .next (s.raise (.build .valueTooWide))) ∨
      (v ≤ 255 ∧ (s.session.busAddr < 0 ∨ 255 < s.session.busAddr) ∧
        s.writeRegister r v = .refused (.command (.operandRange 0x11 s.session.busAddr))) ∨
      (v ≤ 255 ∧ 0xFFFF < r ∧ ∃ a : Byte, s.session.busAddr = a.toNat ∧
        s.writeRegister r v = .next (s.raise (.build .startRegisterTooWide))) ∨
      (v ≤ 255 ∧ r ≤ 0xFFFF ∧ ∃ a : Byte, s.session.busAddr = a.toNat ∧ s.writeRegister r v =
        s.unlessSilent (s.roundTrip .write a
          (writeFrame s.params a masterAddr (BitVec.ofNat 16 r) [BitVec.ofNat 8 v])
          (fun _ s' => s'.answer (.ok [])))) := by
  unfold State.writeRegister
  split
  · exact .inl ⟨‹_›, rfl⟩
  · obtain ⟨a, ha, -⟩ | ⟨ha, -⟩ := byteOf_cases s.session.busAddr
    · rw [State.withThermostat_byte _ _ ha]
      obtain ⟨hr, -, h⟩ | ⟨hr, h⟩ | ⟨-, hl, -⟩ := buildWrite_cases s.params a masterAddr r [BitVec.ofNat 8 v]
      · exact .inr (.inr (.inr ⟨by omega, hr, a, ha, by rw [h]⟩))
      · exact .inr (.inr (.inl ⟨by omega, hr, a, ha, by rw [h]⟩))
      · simp at hl
    · exact .inr (.inl ⟨by omega, ha, State.withThermostat_outside _ _ ha⟩)

/-- Everything a setter's steps can do (R181). -/
theorem State.setRegister_cases (s : State) (w : Setter) (g : Range) (r : Nat) (t : Int) :
    ((t < g.min ∨ (g.max : Int) < t) ∧ s.setRegister w g r t = .next (s.raise (.range w t))) ∨
      ((g.min : Int) ≤ t ∧ t ≤ g.max ∧ s.setRegister w g r t = s.writeRegister r t.toNat) := by
  unfold State.setRegister
  split
  · exact .inl ⟨‹_›, rfl⟩
  · exact .inr ⟨by omega, by omega, rfl⟩

theorem State.getField_absent {s : State} {i : Nat} (k : FieldEntry → Result)
    (h : FieldTable.lookup s.session.table i = none) : s.getField i k = s.raise (.staleData i) := by
  simp [State.getField, h]

theorem State.getField_present {s : State} {i : Nat} {e : FieldEntry} (k : FieldEntry → Result)
    (h : FieldTable.lookup s.session.table i = some e) : s.getField i k = s.answer (k e) := by
  simp [State.getField, h]

/-- Everything a getter's steps can do (R176). -/
theorem State.getField_cases (s : State) (i : Nat) (k : FieldEntry → Result) :
    (FieldTable.lookup s.session.table i = none ∧ s.getField i k = s.raise (.staleData i)) ∨
      (∃ e, FieldTable.lookup s.session.table i = some e ∧ e ∈ s.session.table ∧ e.index = i ∧
        s.getField i k = s.answer (k e)) := by
  cases h : FieldTable.lookup s.session.table i with
  | none => exact .inl ⟨rfl, State.getField_absent k h⟩
  | some e =>
    refine .inr ⟨e, rfl, List.mem_of_find?_eq_some h, ?_, State.getField_present k h⟩
    simpa using List.find?_some h

/-- No key, no entry (R39). -/
theorem FieldTable.lookup_eq_none {t : FieldTable} {i : Nat} :
    FieldTable.lookup t i = none ↔ ∀ e ∈ t, e.index ≠ i := by
  simp [FieldTable.lookup]

/-- In a table with distinct keys every entry is found under its own index (R17). -/
theorem FieldTable.lookup_of_mem {t : FieldTable} {e : FieldEntry} (hw : FieldTable.wf t = true) (he : e ∈ t) :
    FieldTable.lookup t e.index = some e := by
  induction t with
  | nil => cases he
  | cons x xs ih =>
    simp only [FieldTable.wf, List.map_cons, decide_eq_true_eq, List.nodup_cons] at hw
    simp only [FieldTable.lookup, List.find?_cons]
    rcases List.mem_cons.1 he with rfl | he
    · simp
    · have hne : x.index ≠ e.index := fun h => hw.1 (h ▸ List.mem_map_of_mem he)
      simp only [beq_eq_false_iff_ne.2 hne]
      exact ih (by simpa [FieldTable.wf] using hw.2) he

/-- What is taken out of a list of sessions, and what stays (R220). -/
theorem takeSession_some {n : SessionName} {l rest : List Session} {x : Session}
    (h : takeSession n l = some (x, rest)) : sessionName x = n ∧ l.Perm (x :: rest) := by
  induction l generalizing rest with
  | nil => cases h
  | cons y ys ih =>
    simp only [takeSession] at h
    split at h
    · cases h; exact ⟨‹_›, .refl _⟩
    · split at h
      · cases h
      · cases h
        rename_i e
        obtain ⟨ha, hp⟩ := ih e
        exact ⟨ha, (hp.cons y).trans (.swap x y _)⟩

/-- Choosing a session only reorders the sessions (R220). -/
theorem State.select_some {n : SessionName} {s t : State} (h : s.select n = some t) :
    sessionName t.session = n ∧ (s.session :: s.others).Perm (t.session :: t.others) ∧
      t = { s with session := t.session, others := t.others } := by
  unfold State.select at h
  split at h
  · cases h; exact ⟨‹_›, .refl _, rfl⟩
  · split at h
    · cases h
    · cases h
      rename_i e
      obtain ⟨ha, hp⟩ := takeSession_some e
      exact ⟨ha, (hp.cons s.session).trans (.swap _ _ _), rfl⟩

/-- Everything session construction can do (R171). -/
theorem State.construct_cases (k : Nat) (m : Label) (found : LookupAnswer) (a : Int) (n : ReplySize) (x : SessionAttrs)
    (s : State) :
    (found = .unknownModel ∧ s.construct k m found a n x = .next (s.raise (.unknownModel m))) ∨
      (∃ l, found = .found l ∧ l.wf = true ∧ s.construct k m found a n x =
        .next { s with session := Session.new k a l n x, others := s.session :: s.others, result := some (.ok []) }) ∨
      (∃ l, found = .found l ∧ l.wf = false ∧
        s.construct k m found a n x = .refused (.command (.repeatedIndex l))) := by
  cases found with
  | unknownModel => exact .inl ⟨rfl, rfl⟩
  | found l =>
    cases h : l.wf with
    | true => exact .inr (.inl ⟨l, rfl, h, by simp [State.construct, h, State.answer]⟩)
    | false => exact .inr (.inr ⟨l, rfl, h, by simp [State.construct, h]⟩)

/-! ### The decoder's operand checks -/

@[simp] theorem asNat_natOperand (c : Byte) (n : Nat) : asNat c (natOperand n) = .ok n := by
  simp [asNat, natOperand]

@[simp] theorem asNibble_natOperand (c : Byte) (v : Nibble) : asNibble c (natOperand v.toNat) = .ok v := by
  have := v.isLt
  simp [asNibble, natOperand]; omega

@[simp] theorem asByte_natOperand (c b : Byte) : asByte c (natOperand b.toNat) = .ok b := by
  simp [asByte, natOperand]

@[simp] theorem asFunc_natOperand (c : Byte) (f : Func) : asFunc c (natOperand f.code.toNat) = .ok f := by
  cases f <;> rfl

@[simp] theorem asInt_num (c : Byte) (z : Int) : asInt c (.num z) = .ok z := rfl

@[simp] theorem asBytes_bytes (c : Byte) (m : List Byte) : asBytes c (.bytes m) = .ok m := rfl

theorem asLayout_layout (c : Byte) {l : Layout} (h : l.wf = true) : asLayout c (.layout l) = .ok l := by
  simp [asLayout, h]

end Sys2Proof.Machine
end

