-- ==== Sys2Proof/Laws/PerInstr.lean ====
section
/-! SUPPORT. The family EncodedForm: what kind of encoded form each instruction has, and its operation code
(`spec/30_encoding.md` R60, R70). One lemma per constructor. -/

namespace Sys2Proof

/-- The operation code R70 gives an instruction, none for a frame kind. -/
def Instr.code : Instr → Option Byte
  | .crcInit => some 0x00
  | .crcNib _ => some 0x01
  | .crcByte _ => some 0x02
  | .crcRd => some 0x03
  | .crcRun _ => some 0x04
  | .crcVfy _ _ => some 0x05
  | .reqRead _ _ _ => some 0x10
  | .reqWrite _ _ _ _ => some 0x11
  | .rpyVal _ _ _ _ => some 0x20
  | .fldGet _ _ _ => some 0x30
  | .fldDec _ _ => some 0x31
  | .sesRefresh => some 0x40
  | .sesWrreg _ _ => some 0x41
  | .sesGet _ => some 0x42
  | .sesGetTarget => some 0x43
  | .sesGetFloormax => some 0x44
  | .sesGetMode => some 0x45
  | .sesGetSensor => some 0x46
  | .sesSetTarget _ => some 0x48
  | .sesSetFrost _ => some 0x49
  | .sesSetFloormax _ => some 0x4A
  | .reqframeRead _ _ _ => none
  | .reqframeWrite _ _ _ _ => none
  | .rpyframeRead _ _ _ _ _ _ _ => none
  | .rpyframeWriteack _ _ _ _ => none

end Sys2Proof

namespace Sys2Proof.Laws.EncodedForm

/-- An operation encodes as its code with as many operands as R70 lists for it; a frame kind as a frame. -/
def Statement (i : Instr) : Prop :=
  ∀ p : Params, match encode p i with
    | .operation c ops => i.code = some c ∧ ops.length = (zeroOperands c).length
    | .requestFrame f => i.code = none ∧ 10 ≤ f.length
    | .replyFrame f => i.code = none ∧ 7 ≤ f.length

theorem crcInit : Statement .crcInit := fun _ => ⟨rfl, rfl⟩
theorem crcNib (v : Nibble) : Statement (.crcNib v) := fun _ => ⟨rfl, rfl⟩
theorem crcByte (b : Byte) : Statement (.crcByte b) := fun _ => ⟨rfl, rfl⟩
theorem crcRd : Statement .crcRd := fun _ => ⟨rfl, rfl⟩
theorem crcRun (m : List Byte) : Statement (.crcRun m) := fun _ => ⟨rfl, rfl⟩
theorem crcVfy (m t : List Byte) : Statement (.crcVfy m t) := fun _ => ⟨rfl, rfl⟩
theorem reqRead (d s : Byte) (r : Nat) : Statement (.reqRead d s r) := fun _ => ⟨rfl, rfl⟩
theorem reqWrite (d s : Byte) (r : Nat) (pl : List Byte) : Statement (.reqWrite d s r pl) := fun _ => ⟨rfl, rfl⟩
theorem rpyVal (d s : Byte) (f : Func) (raw : List Byte) : Statement (.rpyVal d s f raw) := fun _ => ⟨rfl, rfl⟩
theorem fldGet (raw : List Byte) (i : Nat) (o : Int) : Statement (.fldGet raw i o) := fun _ => ⟨rfl, rfl⟩
theorem fldDec (raw : List Byte) (l : Layout) : Statement (.fldDec raw l) := fun _ => ⟨rfl, rfl⟩
theorem sesRefresh : Statement .sesRefresh := fun _ => ⟨rfl, rfl⟩
theorem sesWrreg (r v : Nat) : Statement (.sesWrreg r v) := fun _ => ⟨rfl, rfl⟩
theorem sesGet (i : Nat) : Statement (.sesGet i) := fun _ => ⟨rfl, rfl⟩
theorem sesGetTarget : Statement .sesGetTarget := fun _ => ⟨rfl, rfl⟩
theorem sesGetFloormax : Statement .sesGetFloormax := fun _ => ⟨rfl, rfl⟩
theorem sesGetMode : Statement .sesGetMode := fun _ => ⟨rfl, rfl⟩
theorem sesGetSensor : Statement .sesGetSensor := fun _ => ⟨rfl, rfl⟩
theorem sesSetTarget (t : Int) : Statement (.sesSetTarget t) := fun _ => ⟨rfl, rfl⟩
theorem sesSetFrost (t : Int) : Statement (.sesSetFrost t) := fun _ => ⟨rfl, rfl⟩
theorem sesSetFloormax (t : Int) : Statement (.sesSetFloormax t) := fun _ => ⟨rfl, rfl⟩
theorem reqframeRead (d s : Byte) (r : Half) : Statement (.reqframeRead d s r) := fun p => by simp [encode, Instr.code]
theorem reqframeWrite (d s : Byte) (r : Half) (pl : List Byte) : Statement (.reqframeWrite d s r pl) := fun p => by
  simp [encode, Instr.code]
theorem rpyframeRead (d ll lh s : Byte) (pl : List Byte) (cl ch : Byte) :
    Statement (.rpyframeRead d ll lh s pl cl ch) := fun p => by
  simp [encode, Instr.code, replyFrameBytes]
theorem rpyframeWriteack (d s cl ch : Byte) : Statement (.rpyframeWriteack d s cl ch) := fun _ => ⟨rfl, Nat.le_refl 7⟩

end Sys2Proof.Laws.EncodedForm
end

