-- ==== Sys2Proof/Tests/Slice0.lean ====
section
/-! SUPPORT. Small tests of the model, each with the place of spec/ its expected value comes from. Every numeric CRC is the
spec's, under its default tables (`spec/95_test_vectors.md`). -/

namespace Sys2Proof.Tests

open Sys2Proof.Machine

/-- The result a step leaves. -/
def resultOf : Host.Outcome State Fault Refusal → Option Result
  | .next s => s.result
  | _ => none

/-- The Field Table a step leaves. -/
def tableOf : Host.Outcome State Fault Refusal → Option FieldTable
  | .next s => some s.session.table
  | _ => none

/-- The transport calls a step leaves. -/
def callsOf : Host.Outcome State Fault Refusal → Option (List TransportCall)
  | .next s => some s.transport.calls
  | _ => none

/-- The Transport Adapters a step leaves. -/
def adaptersOf : Host.Outcome State Fault Refusal → Option (List (Nat × Transport))
  | .next s => some s.adapters
  | _ => none

/-- The accumulator a step leaves. -/
def accOf : Host.Outcome State Fault Refusal → Option (Option Accumulator)
  | .next s => some s.acc
  | _ => none

/-- The outcome is a refusal with this reason. -/
def refusedWith : Host.Outcome State Fault Refusal → Option Refusal
  | .refused r => some r
  | _ => none

/-- The outcome is a fault with this reason. -/
def stoppedWith : Host.Outcome State Fault Refusal → Option Fault
  | .fault f => some f
  | _ => none

/-- The reset state with an accumulator (low, high). -/
def withAcc (low high : Byte) : State := State.reset.setAcc (some ⟨low, high⟩)

/-- The reset state with scripted answers of its adapter. -/
def scripted (l : List Scripted) : State := State.reset.setTransport { script := l, drawn := 0, calls := [] }

/-- The reset state with another bus address. -/
def withBusAddr (a : Int) : State :=
  { State.reset with session := Session.new 0 a exampleLayout .fiveTwoDay exampleAttrs }

/-- The reset state with a Field Table. -/
def withTable (t : FieldTable) : State := State.reset.setTable t

/-- S75 of T30 before its trailer: the 5-byte header and 68 payload bytes, the byte at position `p` being `p`. -/
def s75Body : List Byte := [0x81, 0x4B, 0x00, 0x01, 0x00] ++ (List.range 68).map (fun i => BitVec.ofNat 8 (i + 5))

/-- S75 (T30). -/
def s75 : List Byte := s75Body ++ [0x3B, 0x40]

/-- S30 (P5). -/
def s30 : List Byte :=
  [0x81, 0x1E, 0x00, 0x01, 0x00] ++ (List.range 23).map (fun i => BitVec.ofNat 8 (i + 5)) ++ [0x06, 0x5F]

/-- The write acknowledgement of T31. -/
def ack : List Byte := [0x81, 0x07, 0x00, 0x01, 0x01, 0xB0, 0xEB]

/-! ### Well-formedness: an ill-formed term for each check (R150, R105) -/

theorem test_wf_repeated_index : Instr.wf (.fldDec [] ⟨9, [⟨18, "t"⟩, ⟨18, "u"⟩]⟩) = false := by decide
theorem test_wf_long_payload : Instr.wf (.reqframeWrite 1 0x81 0 (List.replicate 246 0)) = false := by decide +kernel

/-! ### The codes and frames of the opcode table, written out bit by bit (R70, R60) -/

theorem test_decode_crcInit : decodeTableWord 8 0b00000000 = some .crcInit := by decide
theorem test_decode_crcNib :
    decode defaultParams (.operation 0b00000001 [.num 8]) = .ok (.crcNib 8) := by decide
theorem test_decode_crcByte :
    decode defaultParams (.operation 0b00000010 [.num 0x81]) = .ok (.crcByte 0x81) := by decide
theorem test_decode_crcRd : decodeTableWord 8 0b00000011 = some .crcRd := by decide
theorem test_decode_crcRun :
    decode defaultParams (.operation 0b00000100 [.bytes [0x81, 0x0A]]) = .ok (.crcRun [0x81, 0x0A]) := by decide
theorem test_decode_crcVfy :
    decode defaultParams (.operation 0b00000101 [.bytes [], .bytes [0xFF, 0xFF]]) = .ok (.crcVfy [] [0xFF, 0xFF]) := by
  decide
theorem test_decode_reqRead :
    decode defaultParams (.operation 0b00010000 [.num 1, .num 0x81, .num 0x10000]) = .ok (.reqRead 1 0x81 0x10000) := by
  decide
theorem test_decode_reqWrite :
    decode defaultParams (.operation 0b00010001 [.num 1, .num 0x81, .num 18, .bytes [0x15]]) =
      .ok (.reqWrite 1 0x81 18 [0x15]) := by decide
theorem test_decode_rpyVal :
    decode defaultParams (.operation 0b00100000 [.num 0x81, .num 1, .num 1, .bytes ack]) =
      .ok (.rpyVal 0x81 1 .write ack) := by decide
theorem test_decode_fldGet :
    decode defaultParams (.operation 0b00110000 [.bytes [], .num 2, .num (-3)]) = .ok (.fldGet [] 2 (-3)) := by decide
theorem test_decode_fldDec :
    decode defaultParams (.operation 0b00110001 [.bytes [], .layout ⟨9, [⟨18, "t"⟩]⟩]) =
      .ok (.fldDec [] ⟨9, [⟨18, "t"⟩]⟩) := by decide
theorem test_decode_sesRefresh : decodeTableWord 8 0b01000000 = some .sesRefresh := by decide
theorem test_decode_sesWrreg :
    decode defaultParams (.operation 0b01000001 [.num 18, .num 256]) = .ok (.sesWrreg 18 256) := by decide
theorem test_decode_sesGet : decode defaultParams (.operation 0b01000010 [.num 18]) = .ok (.sesGet 18) := by decide
theorem test_decode_getters :
    [0b01000011, 0b01000100, 0b01000101, 0b01000110].map (decodeTableWord 8) =
      [some .sesGetTarget, some .sesGetFloormax, some .sesGetMode, some .sesGetSensor] := by decide
theorem test_decode_setters :
    [0b01001000, 0b01001001, 0b01001010].map (fun c => decode defaultParams (.operation c [.num (-1)])) =
      [.ok (.sesSetTarget (-1)), .ok (.sesSetFrost (-1)), .ok (.sesSetFloormax (-1))] := by decide
/-- T23 of `spec/95_test_vectors.md`. -/
theorem test_decode_reqframeRead :
    decode defaultParams (.requestFrame [0x01, 0x0A, 0x81, 0x00, 0x34, 0x12, 0xFF, 0xFF, 0x37, 0xC2]) =
      .ok (.reqframeRead 0x01 0x81 0x1234) := by decide
/-- T26. -/
theorem test_decode_reqframeWrite :
    decode defaultParams
      (.requestFrame [0x20, 0x0D, 0x81, 0x01, 0x34, 0x12, 0x03, 0x00, 0xAA, 0xBB, 0xCC, 0x3B, 0xA2]) =
      .ok (.reqframeWrite 0x20 0x81 0x1234 [0xAA, 0xBB, 0xCC]) := by decide
/-- T33 with one payload byte more: every byte but the function code is free (R60). -/
theorem test_decode_rpyframeRead :
    decode defaultParams (.replyFrame [0x81, 0x08, 0x00, 0x01, 0x00, 0x2A, 0x91, 0xFB]) =
      .ok (.rpyframeRead 0x81 0x08 0x00 0x01 [0x2A] 0x91 0xFB) := by decide
/-- T31. -/
theorem test_decode_rpyframeWriteack :
    decode defaultParams (.replyFrame ack) = .ok (.rpyframeWriteack 0x81 0x01 0xB0 0xEB) := by decide
theorem test_decode_table_frames :
    decodeTableWord 40 0x0100000700 = some (.rpyframeWriteack 0 0 0 0) ∧
      decodeTableWord 40 0x0000000000 = some (.rpyframeRead 0 0 0 0 [] 0 0) := by decide
/-- R71: reserved codes, an operand outside its type, and a Write reply of no kind (R60). -/
theorem test_decode_refuses :
    decode defaultParams (.operation 0x47 []) = .error (.reservedCode 0x47) ∧
      decode defaultParams (.operation 0x01 [.num 16]) = .error (.operandRange 0x01 16) ∧
      decode defaultParams (.operation 0x02 [.num 256]) = .error (.operandRange 0x02 256) ∧
      decode defaultParams (.replyFrame [0x81, 0x08, 0x00, 0x01, 0x01, 0x55, 0xEC, 0x93]) =
        .error (.noFrameKind [0x81, 0x08, 0x00, 0x01, 0x01, 0x55, 0xEC, 0x93]) := by
  decide
theorem test_encode_request :
    encode defaultParams (.reqframeWrite 0x20 0x81 0x1234 [0xAA, 0xBB, 0xCC]) =
      .requestFrame [0x20, 0x0D, 0x81, 0x01, 0x34, 0x12, 0x03, 0x00, 0xAA, 0xBB, 0xCC, 0x3B, 0xA2] := by decide

/-! ### Checksum Engine (T1 to T19, P1) -/

theorem test_nibble_from_seed :
    accOf (exec (.crcNib 8) (withAcc 0xFF 0xFF)) = some (some ⟨0x17, 0x8F⟩) := by decide
theorem test_nibble_last_row : accOf (exec (.crcNib 15) (withAcc 0xFF 0xFF)) = some (some ⟨0xF0, 0xFF⟩) := by decide
theorem test_nibble_unwritten : resultOf (exec (.crcNib 3) State.reset) = some (.fault .unwritten) := by decide
theorem test_byte_high_nibble_first :
    accOf (exec (.crcByte 0x81) (withAcc 0xFF 0xFF)) = some (some ⟨0x59, 0x60⟩) := by decide
theorem test_rd_low_first : resultOf (exec .crcRd (withAcc 0xEC 0x94)) = some (.crc 0xEC 0x94) := by decide
theorem test_rd_unwritten : resultOf (exec .crcRd State.reset) = some (.fault .unwritten) := by decide
theorem test_run_t2 : resultOf (exec (.crcRun [0x81, 0x0A]) State.reset) = some (.crc 0xEC 0x94) := by decide
theorem test_run_check_value :
    resultOf (exec (.crcRun [0x31, 0x32, 0x33, 0x34, 0x35, 0x36, 0x37, 0x38, 0x39]) State.reset) =
      some (.crc 0xB1 0x29) := by decide
theorem test_run_leaves_unwritten : accOf (exec (.crcRun [0x81]) (withAcc 1 2)) = some none := by decide
theorem test_vfy_order :
    resultOf (exec (.crcVfy [0x81, 0x07, 0x00, 0x01, 0x01] [0xB0, 0xEB]) State.reset) = some (.verdict true) ∧
      resultOf (exec (.crcVfy [0x81, 0x07, 0x00, 0x01, 0x01] [0xEB, 0xB0]) State.reset) = some (.verdict false) ∧
      resultOf (exec (.crcVfy [0x81, 0x07, 0x00, 0x01, 0x01] [0xB0, 0xEB, 0x00]) State.reset) =
        some (.verdict false) := by decide

/-! ### Request builder (T20 to T29) -/

theorem test_req_read_t20 :
    resultOf (exec (.reqRead 0x01 0x81 0) State.reset) =
      some (.frame [0x01, 0x0A, 0x81, 0x00, 0x00, 0x00, 0xFF, 0xFF, 0x2C, 0x09]) := by decide
theorem test_req_read_wide :
    resultOf (exec (.reqRead 0x01 0x81 0x10000) State.reset) = some (.fault (.build .startRegisterTooWide)) := by decide
theorem test_req_write_t24 :
    resultOf (exec (.reqWrite 0x01 0x81 18 [0x15]) State.reset) =
      some (.frame [0x01, 0x0B, 0x81, 0x01, 0x12, 0x00, 0x01, 0x00, 0x15, 0xBB, 0x46]) := by decide
theorem test_req_write_both_causes :
    resultOf (exec (.reqWrite 1 0x81 0x10000 (List.replicate 246 0)) State.reset) =
      some (.fault (.build .startRegisterTooWide)) ∧
      resultOf (exec (.reqWrite 1 0x81 0 (List.replicate 246 0)) State.reset) =
        some (.fault (.build .payloadTooLong)) := by decide +kernel
/-- T29, R107. -/
theorem test_read_with_payload :
    resultOf ((State.reset).run (.buildRequest 1 0x81 .read 0 (some [0x15]))) = some (.fault (.build .payloadOnRead)) := by
  decide

/-! ### Reply validator (T31 to T56) -/

/-- T31, T32, T34, T35, T36, T37, T45, T46, T47, T48, T49, T50, T51 as VSTAT numbers. -/
theorem test_vstat_table :
    vstatOf defaultParams 0x81 0x01 .write ack = 0x000 ∧
    vstatOf defaultParams 0x81 0x01 .read ack = 0x040 ∧
    vstatOf defaultParams 0xA0 0x20 .write [0xA0, 0x07, 0x00, 0x20, 0x01, 0x82, 0x7C] = 0x000 ∧
    vstatOf defaultParams 0x81 0x01 .write [0xA0, 0x07, 0x00, 0x20, 0x01, 0x82, 0x7C] = 0x014 ∧
    vstatOf defaultParams 0x81 0x01 .write [0x81, 0x08, 0x00, 0x01, 0x01, 0x55, 0xEC, 0x93] = 0x080 ∧
    vstatOf defaultParams 0x81 0x01 .write [0x81, 0x07, 0x01, 0x01, 0x01, 0x80, 0xDC] = 0x180 ∧
    vstatOf defaultParams 0x81 0x01 .write [0x81, 0x07, 0x00, 0x01, 0x01, 0x00, 0x00] = 0x001 := by decide
theorem test_vstat_short :
    vstatOf defaultParams 0x81 0x01 .read [] = 0x1FF ∧
    vstatOf defaultParams 0x81 0x01 .read [0x81] = 0x1F9 ∧
    vstatOf defaultParams 0x81 0x01 .read [0x81, 0x07, 0x00] = 0x1F9 ∧
    vstatOf defaultParams 0x81 0x01 .read [0x81, 0x07, 0x00, 0x01] = 0x1E1 ∧
    vstatOf defaultParams 0x81 0x01 .read [0x81, 0x07, 0x00, 0x01, 0x01] = 0x141 ∧
    vstatOf defaultParams 0x81 0x01 .read [0x00, 0xFF, 0xFF, 0x00, 0x02, 0x00, 0x00] = 0x17F ∧
    vstatOf defaultParams 0x81 0x01 .read [0x01, 0x0A, 0x81, 0x00, 0x00, 0x00, 0xFF, 0xFF, 0x2C, 0x09] = 0x11E := by
  decide
theorem test_validate_s75 : vstatOf defaultParams 0x81 0x01 .read s75 = 0x000 := by decide +kernel
theorem test_validate_s75_cut : vstatOf defaultParams 0x81 0x01 .read (s75.take 74) = 0x101 := by decide +kernel
theorem test_validate_header :
    resultOf (exec (.rpyVal 0x81 0x01 .write ack) State.reset) =
      some (.validation ⟨ack, some 0x81, some 7, some 1, some 1, 0⟩) := by decide

/-! ### Field Decoder (T60 to T67) -/

theorem test_fld_get_edges :
    resultOf (exec (.fldGet s75 65 9) State.reset) = some (.byte 0x40) ∧
      resultOf (exec (.fldGet s75 66 9) State.reset) = some (.fault (.decode 66)) := by decide +kernel
theorem test_fld_get_negative :
    resultOf (exec (.fldGet s75 2 (-3)) State.reset) = some (.fault (.decode 2)) ∧
      resultOf (exec (.fldGet s75 3 (-3)) State.reset) = some (.byte 0x81) := by decide +kernel
/-- T62. -/
theorem test_fld_dec_partial :
    resultOf (exec (.fldDec (s75.take 30) ⟨9, [⟨0, "a"⟩, ⟨18, "t"⟩, ⟨20, "u"⟩, ⟨21, "v"⟩, ⟨40, "w"⟩]⟩) State.reset) =
      some (.table [⟨0, "a", 0x09⟩, ⟨18, "t", 0x1B⟩, ⟨20, "u", 0x1D⟩] [.decode 21, .decode 40]) := by decide +kernel
/-- T67. -/
theorem test_fld_dec_repeated :
    refusedWith (exec (.fldDec s75 ⟨9, [⟨18, "t"⟩, ⟨18, "u"⟩]⟩) State.reset) =
      some (.command (.repeatedIndex ⟨9, [⟨18, "t"⟩, ⟨18, "u"⟩]⟩)) := by decide

/-! ### Session (T70 to T77, P4 to P6) -/

/-- P4 step 2. -/
theorem test_refresh_p4 :
    tableOf (exec .sesRefresh (scripted [.answer (.reply s75)])) = some [⟨18, "target temperature", 0x1B⟩] ∧
      callsOf (exec .sesRefresh (scripted [.answer (.reply s75)])) =
        some [.write [0x01, 0x0A, 0x81, 0x00, 0x00, 0x00, 0xFF, 0xFF, 0x2C, 0x09], .read 75] := by decide +kernel
/-- P4 step 4: the old table stays. -/
theorem test_refresh_checksum :
    tableOf (exec .sesRefresh ((scripted [.answer (.reply (s75Body ++ [0, 0]))]).setTable [⟨18, "x", 1⟩])) =
      some [⟨18, "x", 1⟩] ∧
    (resultOf (exec .sesRefresh (scripted [.answer (.reply (s75Body ++ [0, 0]))]))).map
      (fun r => match r with | .fault f => f.code | _ => 0) = some 1 := by decide +kernel
/-- T77, T76. -/
theorem test_wrreg_outcomes :
    resultOf (exec (.sesWrreg 18 21) (scripted [.answer (.reply ack)])) = some (.ok []) ∧
      callsOf (exec (.sesWrreg 18 21) (scripted [.answer (.reply ack)])) =
        some [.write [0x01, 0x0B, 0x81, 0x01, 0x12, 0x00, 0x01, 0x00, 0x15, 0xBB, 0x46], .read 75] ∧
      callsOf (exec (.sesWrreg 18 21) (scripted [.answer (.writeFault "bus")])) =
        some [.write [0x01, 0x0B, 0x81, 0x01, 0x12, 0x00, 0x01, 0x00, 0x15, 0xBB, 0x46]] := by decide
/-- T73: no transport call. -/
theorem test_wrreg_build_faults :
    resultOf (exec (.sesWrreg 18 256) State.reset) = some (.fault (.build .valueTooWide)) ∧
      resultOf (exec (.sesWrreg 65536 1) State.reset) = some (.fault (.build .startRegisterTooWide)) ∧
      callsOf (exec (.sesWrreg 65536 1) State.reset) = some [] := by decide
/-- R246. -/
theorem test_silent_adapter : stoppedWith (exec .sesRefresh (scripted [.silent])) = some .transportHang := by decide
/-- T74. -/
theorem test_get_stale : resultOf (exec (.sesGet 18) State.reset) = some (.fault (.staleData 18)) := by decide
theorem test_get_entry :
    resultOf (exec (.sesGet 18) (withTable [⟨18, "t", 0x1B⟩])) = some (.entry "t" 0x1B) := by decide
theorem test_get_target : resultOf (exec .sesGetTarget (withTable [⟨18, "t", 0x1B⟩])) = some (.byte 27) := by decide
theorem test_get_floormax : resultOf (exec .sesGetFloormax (withTable [⟨0, "f", 30⟩])) = some (.byte 30) := by decide
/-- T75. -/
theorem test_get_mode :
    resultOf (exec .sesGetMode (withTable [⟨0, "m", 1⟩])) = some (.label "7 day") ∧
      resultOf (exec .sesGetMode (withTable [⟨0, "m", 2⟩])) = some (.fault (.enum 0 2)) := by decide
/-- T75. -/
theorem test_get_sensor :
    resultOf (exec .sesGetSensor (withTable [⟨0, "s", 4⟩])) = some (.label "") ∧
      resultOf (exec .sesGetSensor (withTable [⟨0, "s", 5⟩])) = some (.fault (.enum 0 5)) := by decide
/-- T70 to T72: the ends of the three ranges. -/
theorem test_setter_ranges :
    [resultOf (exec (.sesSetTarget 4) State.reset), resultOf (exec (.sesSetTarget 36) State.reset),
      resultOf (exec (.sesSetTarget (-1)) State.reset), resultOf (exec (.sesSetFrost 18) State.reset),
      resultOf (exec (.sesSetFloormax 19) State.reset)] =
    [some (.fault (.range .target 4)), some (.fault (.range .target 36)), some (.fault (.range .target (-1))),
      some (.fault (.range .frost 18)), some (.fault (.range .floorMax 19))] := by decide
theorem test_setter_accepts :
    callsOf (exec (.sesSetTarget 21) (scripted [.answer (.reply ack)])) =
      some [.write [0x01, 0x0B, 0x81, 0x01, 0x12, 0x00, 0x01, 0x00, 0x15, 0xBB, 0x46], .read 75] := by decide

/-! ### Frames of the wire, and the step -/

/-- T20 handed over as a frame. -/
theorem test_frame_request :
    resultOf (exec (.reqframeRead 0x01 0x81 0) State.reset) =
      some (.frame [0x01, 0x0A, 0x81, 0x00, 0x00, 0x00, 0xFF, 0xFF, 0x2C, 0x09]) := by decide
theorem test_frame_ack :
    resultOf (exec (.rpyframeWriteack 0x81 0x01 0xB0 0xEB) State.reset) =
      some (.validation ⟨ack, some 0x81, some 7, some 1, some 1, 0⟩) := by decide
theorem test_step_runs_word :
    resultOf (step (State.reset.withFetchWord 8 0x01)) = some (.fault .unwritten) ∧
      accOf (step (State.reset.withFetchWord 8 0x00)) = some (some ⟨0xFF, 0xFF⟩) := by decide
/-- P6 step 5. -/
theorem test_step_reserved :
    refusedWith (step (State.reset.withFetchWord 8 0x47)) = some (.command (.reservedCode 0x47)) := by decide
/-- R171, R208: no session is made. -/
theorem test_construct_unknown :
    resultOf (State.reset.run (.construct 0 "PRT" .unknownModel 2 .sevenDay exampleAttrs)) =
      some (.fault (.unknownModel "PRT")) := by decide
/-- R171, R106: a session with an address above 255 can be made, and its refresh cannot be built. -/
theorem test_wide_address :
    refusedWith (exec .sesRefresh (withBusAddr 300)) = some (.command (.operandRange 0x10 300)) ∧
      refusedWith (exec (.sesWrreg 18 21) (withBusAddr (-1))) = some (.command (.operandRange 0x11 (-1))) ∧
      resultOf (exec (.sesSetTarget 36) (withBusAddr 300)) = some (.fault (.range .target 36)) := by decide
/-- R171, R220: an exchange of a session on adapter 1 uses up adapter 1's answers and leaves adapter 0's. -/
theorem test_two_adapters :
    let s : State := { State.reset with
      session := Session.new 1 1 exampleLayout .fiveTwoDay exampleAttrs,
      adapters := [(0, ⟨[.silent], 0, []⟩), (1, ⟨[.answer (.reply ack)], 0, []⟩)] }
    resultOf (exec (.sesWrreg 18 21) s) = some (.ok []) ∧
      (callsOf (exec (.sesWrreg 18 21) s)).map List.length = some 2 ∧
      (adaptersOf (exec (.sesWrreg 18 21) s)).map (readAdapter 0) = some ⟨[.silent], 0, []⟩ := by decide
/-- R201: the class codes. -/
theorem test_fault_codes :
    [FaultValue.decode 0, .staleData 0, .range .target 0, .io "", .unknownModel "", .build .valueTooWide, .enum 0 0,
      .unwritten].map FaultValue.code = [3, 4, 5, 6, 7, 8, 9, 11] ∧ commandFaultCode (.reservedCode 0x47) = 10 ∧
      commandFaultCode (.repeatedIndex exampleLayout) = 10 := by decide

end Sys2Proof.Tests
end

