-- ==== Sys2Proof/Tests/Witnesses.lean ====
section
/-! SUPPORT. For every statement of Certificates/Slice0/Obligations.lean that has hypotheses, a concrete state and operands that
meet all of them together, clause by clause and at the ends of ranges. A statement that is not named here has no
hypothesis. -/

namespace Sys2Proof.Tests

open Sys2Proof.Machine Sys2Proof.Claims

/-- Two sessions: thermostat 1 is active, thermostat 2 is not. -/
def twoSessions : State :=
  { State.reset with others := [Session.new 0 2 exampleLayout .sevenDay exampleAttrs] }

/-- The shortest valid Read reply (T33). -/
def shortReply : List Byte := [0x81, 0x07, 0x00, 0x01, 0x00, 0x91, 0xFB]

/-! ### Checksum Engine -/

/-- CrcNibThreeSteps: a number just outside each end, an unwritten and a written accumulator. -/
theorem test_witness_crcNib :
    ((-1 : Int) < 0 ∨ (15 : Int) < -1) ∧ ((16 : Int) < 0 ∨ (15 : Int) < 16) ∧ State.reset.acc = none ∧
      (withAcc 0xFF 0xF0).acc = some ⟨0xFF, 0xF0⟩ := by decide

/-- CrcByteIsTwoNibbles. -/
theorem test_witness_crcByte : State.reset.acc = none ∧ (withAcc 0x17 0x8F).acc ≠ none := by decide

/-- CrcRdReadsPairLowFirst. -/
theorem test_witness_crcRd : State.reset.acc = none ∧ (withAcc 0xEC 0x94).acc = some ⟨0xEC, 0x94⟩ := by decide

/-- OneChangedByteChangesCrc (T18: bit 0 of byte 4). -/
theorem test_witness_changed_byte : (0x01 : Byte) ≠ 0x00 := by decide

/-! ### Request builder -/

/-- ReqReadBuildsTenBytes: the last register that fits and the first that does not. -/
theorem test_witness_reqRead : (0xFFFF < 0x10000) ∧ (0xFFFF ≤ 0xFFFF) := by decide

/-- ReqWriteBuildsFrame: the longest payload and one byte more. -/
theorem test_witness_reqWrite :
    0xFFFF < 0x10000 ∧ (0xFFFF ≤ 0xFFFF ∧ 245 < (List.replicate 246 (0 : Byte)).length) ∧
      (0xFFFF ≤ 0xFFFF ∧ (List.replicate 245 (0 : Byte)).length ≤ 245) := by
  simp only [List.length_replicate]; decide

/-- BuildContractDispatches, its last clause. -/
theorem test_witness_build : 0xFFFF ≤ 0xFFFF ∧ ([0x15] : List Byte) ≠ [] := by decide

/-- BuiltFramesKeepTheirShape: register 0xFFFF for both, an empty payload for the Write. -/
theorem test_witness_built_frames :
    (∃ t f, exec (.reqRead 0x01 0x81 0xFFFF) State.reset = .next t ∧ t.result = some (.frame f)) ∧
      (∃ t f, exec (.reqWrite 0x01 0x81 0xFFFF []) State.reset = .next t ∧ t.result = some (.frame f)) :=
  ⟨⟨_, _, rfl, rfl⟩, ⟨_, _, rfl, rfl⟩⟩

/-- RequestIsNeverAValidReply: the least nonzero source, for a Read and for a Write. -/
theorem test_witness_never_reply :
    (∃ t f, exec (.reqRead 0x81 0x01 0) State.reset = .next t ∧ t.result = some (.frame f)) ∧
      (∃ t f, exec (.reqWrite 0x81 0x01 0 [0x15]) State.reset = .next t ∧ t.result = some (.frame f)) ∧
      (0x01 : Byte) ≠ 0 :=
  ⟨⟨_, _, rfl, rfl⟩, ⟨_, _, rfl, rfl⟩, by decide⟩

/-! ### Reply validator -/

/-- RpyValAlwaysAnswersARecord: a reply of 2 bytes and one that has bytes 1 and 2. -/
theorem test_witness_rpyVal :
    ([0x81, 0x07] : List Byte).length < 3 ∧ ([0x81, 0x07, 0x00] : List Byte)[1]? = some 0x07 ∧
      ([0x81, 0x07, 0x00] : List Byte)[2]? = some 0x00 := by decide

/-- ValidReplyHasItsShape: T31 for Write, T33 for Read, T34 for the other master value and the last thermostat. -/
theorem test_witness_valid_reply :
    (validate defaultParams 0x81 0x01 .write ack).valid = true ∧
      (validate defaultParams 0x81 0x01 .read shortReply).valid = true ∧
      (validate defaultParams 0xA0 0x20 .write [0xA0, 0x07, 0x00, 0x20, 0x01, 0x82, 0x7C]).valid = true := by decide

/-- NoShortReplyIsValid: a frame one byte short. -/
theorem test_witness_short_reply : ([0x81, 0x07, 0x00, 0x01, 0x01, 0xB0] : List Byte).length < 7 := by decide

/-! ### Field Decoder -/

/-- FldGetReadsOneByte: position -1, the position just past the end, and the last position. -/
theorem test_witness_fldGet :
    ((2 : Nat) : Int) + (-3) < 0 ∧ ((ack.length : Int) ≤ ((7 : Nat) : Int) + 0) ∧ ((6 : Nat) : Int) + 0 = (6 : Nat) ∧
      ack[6]? = some 0xEB := by decide

/-- FldDecSplitsTheLayout and PartialDecodeKeepsInBoundsFields. -/
theorem test_witness_fldDec :
    ¬ ((⟨9, [⟨18, "t"⟩, ⟨18, "u"⟩]⟩ : Layout).fields.map (·.index)).Nodup ∧
      (exampleLayout.fields.map (·.index)).Nodup ∧ exampleLayout.wf = true ∧
      (⟨18, "target temperature"⟩ : FieldDecl) ∈ exampleLayout.fields := by decide

/-! ### Device Session -/

/-- RefreshOutcomes: one state for each of the transport's answers, and for a valid and an invalid reply. -/
theorem test_witness_refresh :
    State.reset.session.busAddr = (1 : Byte).toNat ∧ (scripted []).session = State.reset.session ∧
    ((scripted [.answer (.writeFault "w")]).transport.silent = false ∧
      (scripted [.answer (.writeFault "w")]).nextAnswer = .writeFault "w") ∧
    ((scripted [.answer (.readFault "r")]).transport.silent = false ∧
      (scripted [.answer (.readFault "r")]).nextAnswer = .readFault "r") ∧
    ((scripted [.answer (.reply shortReply)]).transport.silent = false ∧
      (scripted [.answer (.reply shortReply)]).nextAnswer = .reply shortReply ∧
      (validate State.reset.params 129 1 .read (shortReply.take State.reset.session.maxReply.toNat)).valid = true) ∧
    ((scripted [.answer (.reply [])]).transport.silent = false ∧
      (scripted [.answer (.reply [])]).nextAnswer = .reply [] ∧
      (validate State.reset.params 129 1 .read ([].take State.reset.session.maxReply.toNat)).valid = false) := by decide

/-- WrregOutcomes: the last value and register that fit, the first that do not, each answer, both verdicts, the first and
the last address. -/
theorem test_witness_wrreg :
    255 < 256 ∧ (255 ≤ 255 ∧ 0xFFFF < 0x10000) ∧ (255 ≤ 255 ∧ 0xFFFF ≤ 0xFFFF) ∧
    (withBusAddr 0).session.busAddr = (0 : Byte).toNat ∧ (withBusAddr 255).session.busAddr = (255 : Byte).toNat ∧
    (scripted [.answer (.writeFault "w")]).nextAnswer = .writeFault "w" ∧
    (scripted [.answer (.readFault "r")]).nextAnswer = .readFault "r" ∧
    ((scripted [.answer (.reply ack)]).transport.silent = false ∧
      (scripted [.answer (.reply ack)]).nextAnswer = .reply ack) ∧
    (validate State.reset.params 129 1 .write (ack.take State.reset.session.maxReply.toNat)).valid = true ∧
    (validate State.reset.params 129 1 .write (shortReply.take State.reset.session.maxReply.toNat)).valid = false := by
  decide

/-- SilentAdapterHangsExchanges: the ends of each setter's range. -/
theorem test_witness_silent :
    (scripted [.silent]).transport.silent = true ∧ 255 ≤ 255 ∧ 0xFFFF ≤ 0xFFFF ∧
      Instr.exchanges .sesGetTarget = false ∧ (0 ≤ (scripted [.silent]).session.busAddr) ∧
      (scripted [.silent]).session.busAddr ≤ 255 ∧ ((5 : Int) ≤ 255 ∧ (45 : Int) ≤ 255) ∧
      ((scripted [.silent]).params.rangeTarget.min : Int) ≤ 5 ∧ 35 ≤ ((scripted [.silent]).params.rangeTarget.max : Int) ∧
      ((scripted [.silent]).params.rangeFrost.min : Int) ≤ 7 ∧ 17 ≤ ((scripted [.silent]).params.rangeFrost.max : Int) ∧
      ((scripted [.silent]).params.rangeFloorMax.min : Int) ≤ 20 ∧
      45 ≤ ((scripted [.silent]).params.rangeFloorMax.max : Int) ∧
      (scripted [.silent]).session.attrs.regTarget ≤ 0xFFFF ∧ (scripted [.silent]).session.attrs.regFrost ≤ 0xFFFF ∧
      (scripted [.silent]).session.attrs.regFloorMax ≤ 0xFFFF := by decide

/-- AddressOutsideByteIsRefused: the integers next to the bytes, and a value inside each range. -/
theorem test_witness_address :
    ((withBusAddr (-1)).session.busAddr < 0 ∨ 255 < (withBusAddr (-1)).session.busAddr) ∧
      ((withBusAddr 256).session.busAddr < 0 ∨ 255 < (withBusAddr 256).session.busAddr) ∧ 255 ≤ 255 ∧
      (((withBusAddr 256).params.rangeTarget.min : Int) ≤ 35 ∧ 35 ≤ ((withBusAddr 256).params.rangeTarget.max : Int)) ∧
      (((withBusAddr 256).params.rangeFrost.min : Int) ≤ 7 ∧ 7 ≤ ((withBusAddr 256).params.rangeFrost.max : Int)) ∧
      (((withBusAddr 256).params.rangeFloorMax.min : Int) ≤ 45 ∧ 45 ≤ ((withBusAddr 256).params.rangeFloorMax.max : Int)) := by
  decide

/-- SesGetReadsTheTable. -/
theorem test_witness_sesGet :
    (∀ e ∈ State.reset.session.table, e.index ≠ 18) ∧
      ((withTable [⟨18, "t", 1⟩, ⟨20, "u", 2⟩]).session.table.map (·.index)).Nodup ∧
      (⟨20, "u", 2⟩ : FieldEntry) ∈ (withTable [⟨18, "t", 1⟩, ⟨20, "u", 2⟩]).session.table := by decide

/-- TemperatureGettersReadRawByte (IDX_FLOORMAX is 0 in these states, log entry 3). -/
theorem test_witness_temperature_getters :
    (∀ e ∈ State.reset.session.table, e.index ≠ 18) ∧
      (∀ e ∈ State.reset.session.table, e.index ≠ State.reset.session.attrs.idxFloorMax) ∧
      ((withTable [⟨18, "t", 1⟩, ⟨0, "f", 2⟩]).session.table.map (·.index)).Nodup ∧
      (⟨18, "t", 1⟩ : FieldEntry) ∈ (withTable [⟨18, "t", 1⟩, ⟨0, "f", 2⟩]).session.table ∧
      (⟨0, "f", 2⟩ : FieldEntry) ∈ (withTable [⟨18, "t", 1⟩, ⟨0, "f", 2⟩]).session.table ∧
      (⟨0, "f", 2⟩ : FieldEntry).index = (withTable [⟨18, "t", 1⟩, ⟨0, "f", 2⟩]).session.attrs.idxFloorMax := by decide

/-- ModeGetterLabelsTheCode: the codes 0, 1 and 2. -/
theorem test_witness_mode :
    (∀ e ∈ State.reset.session.table, e.index ≠ State.reset.session.attrs.idxMode) ∧
      ∀ c ∈ ([0, 1, 2] : List Byte), ((withTable [⟨0, "m", c⟩]).session.table.map (·.index)).Nodup ∧
        (⟨0, "m", c⟩ : FieldEntry) ∈ (withTable [⟨0, "m", c⟩]).session.table ∧
        (⟨0, "m", c⟩ : FieldEntry).index = (withTable [⟨0, "m", c⟩]).session.attrs.idxMode := by decide

/-- SensorGetterLabelsTheCode: the codes 4 and 5. -/
theorem test_witness_sensor :
    (∀ e ∈ State.reset.session.table, e.index ≠ State.reset.session.attrs.idxSensor) ∧
      (4 : Byte).toNat < 5 ∧ 5 ≤ (5 : Byte).toNat ∧
      ∀ c ∈ ([4, 5] : List Byte), ((withTable [⟨0, "s", c⟩]).session.table.map (·.index)).Nodup ∧
        (⟨0, "s", c⟩ : FieldEntry) ∈ (withTable [⟨0, "s", c⟩]).session.table ∧
        (⟨0, "s", c⟩ : FieldEntry).index = (withTable [⟨0, "s", c⟩]).session.attrs.idxSensor := by decide

/-- SettersCheckTheirRange: both sides of both ends of each range, and an adapter that answers. -/
theorem test_witness_setters :
    State.reset.params.rangeTarget = ⟨5, 35⟩ ∧ State.reset.params.rangeFrost = ⟨7, 17⟩ ∧
      State.reset.params.rangeFloorMax = ⟨20, 45⟩ ∧
      ((4 : Int) < 5 ∨ (35 : Int) < 4) ∧ ((36 : Int) < 5 ∨ (35 : Int) < 36) ∧ ((5 : Int) ≤ 5 ∧ (5 : Int) ≤ 35) ∧
      ((5 : Int) ≤ 35 ∧ (35 : Int) ≤ 35) ∧ ((6 : Int) < 7 ∨ (17 : Int) < 6) ∧ ((18 : Int) < 7 ∨ (17 : Int) < 18) ∧
      ((7 : Int) ≤ 7 ∧ (7 : Int) ≤ 17) ∧ ((7 : Int) ≤ 17 ∧ (17 : Int) ≤ 17) ∧ ((19 : Int) < 20 ∨ (45 : Int) < 19) ∧
      ((46 : Int) < 20 ∨ (45 : Int) < 46) ∧ ((20 : Int) ≤ 20 ∧ (20 : Int) ≤ 45) ∧ ((20 : Int) ≤ 45 ∧ (45 : Int) ≤ 45) ∧
      State.reset.transport.silent = false ∧ 0 ≤ State.reset.session.busAddr ∧ State.reset.session.busAddr ≤ 255 := by
  decide

/-- SettersCheckAnyRange: a range that is not DOC0's, its ends and the integers next to them. -/
theorem test_witness_any_range :
    let s : State := { State.reset with params := { defaultParams with rangeTarget := ⟨0, 300⟩ } }
    ((-1 : Int) < s.params.rangeTarget.min ∨ (s.params.rangeTarget.max : Int) < -1) ∧
      ((301 : Int) < s.params.rangeTarget.min ∨ (s.params.rangeTarget.max : Int) < 301) ∧
      ((s.params.rangeTarget.min : Int) ≤ 0 ∧ (0 : Int) ≤ s.params.rangeTarget.max) ∧
      ((s.params.rangeTarget.min : Int) ≤ 300 ∧ (300 : Int) ≤ s.params.rangeTarget.max) ∧
      ((6 : Int) < s.params.rangeFrost.min ∨ (s.params.rangeFrost.max : Int) < 6) ∧
      ((s.params.rangeFrost.min : Int) ≤ 17 ∧ (17 : Int) ≤ s.params.rangeFrost.max) ∧
      ((46 : Int) < s.params.rangeFloorMax.min ∨ (s.params.rangeFloorMax.max : Int) < 46) ∧
      ((s.params.rangeFloorMax.min : Int) ≤ 20 ∧ (20 : Int) ≤ s.params.rangeFloorMax.max) ∧
      s.transport.silent = false ∧ 0 ≤ s.session.busAddr ∧ s.session.busAddr ≤ 255 := by decide

/-- RefreshThenGetReadsTheReply: T33 is valid and too short for the layout's field 18; a layout whose only field is
byte 6 of the reply is in bounds, one of byte 7 just out of them. -/
theorem test_witness_refresh_then_get :
    let s : State := { scripted [.answer (.reply shortReply)] with
      session := Session.new 0 1 ⟨0, [⟨6, "a"⟩, ⟨7, "b"⟩]⟩ .fiveTwoDay exampleAttrs }
    s.session.Sound ∧ s.nextAnswer = .reply shortReply ∧
      (∃ t fs, exec .sesRefresh s = .next t ∧ t.result = some (.ok fs)) ∧
      (⟨6, "a"⟩ : FieldDecl) ∈ s.session.layout.fields ∧ (⟨7, "b"⟩ : FieldDecl) ∈ s.session.layout.fields ∧
      (shortReply.take s.session.maxReply.toNat).length = 7 :=
  ⟨by decide, rfl, ⟨_, _, rfl, rfl⟩, by decide, by decide, by decide⟩

/-- WritesLeaveTheGettersAlone: a write and a setter that succeed. -/
theorem test_witness_writes :
    (∃ t, exec (.sesWrreg 18 21) (scripted [.answer (.reply ack)]) = .next t) ∧
      (∃ t, exec (.sesSetFrost 7) (scripted [.answer (.reply ack)]) = .next t) := ⟨⟨_, rfl⟩, ⟨_, rfl⟩⟩

/-! ### Frames of the wire -/

/-- RequestFrameKindsAreTheirBuild: the longest payload. -/
theorem test_witness_request_frame : (List.replicate 245 (0 : Byte)).length ≤ 245 := by
  simp only [List.length_replicate]; decide

/-- ReplyFrameKindsAreValidated. -/
theorem test_witness_reply_frame : State.reset.session.busAddr = (1 : Byte).toNat := by decide

/-! ### The whole machine -/

/-- StepKeepsTheFieldTableForm: a step that replaces the table. -/
theorem test_witness_step_inv :
    let s : State := { scripted [.answer (.reply shortReply)] with pending := [⟨none, .instr (.operation 0x40 [])⟩] }
    s.Inv ∧ ∃ t, step s = .next t := ⟨by decide, ⟨_, rfl⟩⟩

/-- OnlyRefreshWritesTheFieldTable: a refresh whose new table differs. -/
theorem test_witness_table_changes :
    ∃ t, exec .sesRefresh ((scripted [.answer (.reply shortReply)]).setTable [⟨18, "x", 1⟩]) = .next t ∧
      t.session.table ≠ [⟨18, "x", 1⟩] := ⟨_, rfl, by decide⟩

/-- AttributesAndParametersAreConstant, OneExchangeAtMost (another adapter than the session's 0), EveryOperationAnswers: an
instruction that answers. -/
theorem test_witness_exec_answers :
    1 ≠ State.reset.session.adapter ∧
    (∃ t, exec (.sesSetTarget 21) (scripted [.answer (.reply ack)]) = .next t) ∧
      (∃ t, exec .crcRd State.reset = .next t) ∧ Instr.exchanges .crcRd = false ∧
      State.reset.safeFor .sesRefresh ∧ State.reset.safeFor (.fldDec [] exampleLayout) :=
  ⟨by decide, ⟨_, rfl⟩, ⟨_, rfl⟩, rfl, ⟨fun _ => rfl, fun _ => by decide, rfl⟩, ⟨fun _ => rfl, fun _ => by decide, by decide⟩⟩

/-- FaultingOperationsWriteNothing: a refresh that ends in a fault. -/
theorem test_witness_faults :
    ∃ t f, exec .sesRefresh (scripted [.answer (.readFault "timeout")]) = .next t ∧ t.result = some (.fault f) :=
  ⟨_, _, rfl, rfl⟩

/-- InnerCrcLeavesAccumulatorUnwritten: every clause, from a written accumulator. -/
theorem test_witness_inner_crc :
    (∃ t f, exec (.reqRead 1 0x81 0) (withAcc 1 2) = .next t ∧ t.result = some (.frame f)) ∧
      (∃ t f, exec (.reqWrite 1 0x81 0x10000 []) (withAcc 1 2) = .next t ∧ t.result = some (.fault f)) ∧
      (∃ t, exec (.rpyVal 0x81 1 .read [0xFF, 0xFF]) (withAcc 1 2) = .next t) ∧
      (∃ t, exec (.rpyVal 0x81 1 .read [0xFF]) (withAcc 1 2) = .next t) ∧
      (∃ t, exec .sesRefresh (scripted [.answer (.reply [])]) = .next t) ∧
      (∃ t, exec (.sesWrreg 0 0) (scripted [.answer (.reply [])]) = .next t ∧
        t.adapters ≠ (scripted [.answer (.reply [])]).adapters) :=
  ⟨⟨_, _, rfl, rfl⟩, ⟨_, _, rfl, rfl⟩, ⟨_, rfl⟩, ⟨_, rfl⟩, ⟨_, rfl⟩, ⟨_, rfl, by decide⟩⟩

/-- ResultsDependOnNothingElse and CodecAndDecoderReadNoState: two different states that agree where they must. -/
theorem test_witness_two_states :
    State.reset.acc = twoSessions.acc ∧ State.reset.session = twoSessions.session ∧
      State.reset.transport = twoSessions.transport ∧ State.reset.params = twoSessions.params ∧
      State.reset ≠ twoSessions := by decide

/-- ConstructionMakesAnEmptySession. -/
theorem test_witness_construct :
    (exampleLayout.fields.map (·.index)).Nodup ∧ ¬ (([⟨1, "a"⟩, ⟨1, "b"⟩] : List FieldDecl).map (·.index)).Nodup := by
  decide

/-- ChoosingASessionKeepsThemAll: a session that is there, one with its address on another adapter, and one that is not. -/
theorem test_witness_choose :
    (∃ x ∈ twoSessions.session :: twoSessions.others, x.adapter = 0 ∧ x.busAddr = 2) ∧
      (∀ x ∈ twoSessions.session :: twoSessions.others, ¬ (x.adapter = 1 ∧ x.busAddr = 2)) ∧
      (∀ x ∈ twoSessions.session :: twoSessions.others, ¬ (x.adapter = 0 ∧ x.busAddr = 3)) ∧
      (twoSessions.setPending [⟨some ⟨0, 2⟩, .instr (.operation 0x43 [])⟩]).pending =
        ⟨some ⟨0, 2⟩, .instr (.operation 0x43 [])⟩ :: [] := by decide

/-! ### Decoding and the step -/

/-- DecodeOfEncodeIsIdentity: one well-formed instruction with each check. -/
theorem test_witness_wf :
    Instr.wf (.fldDec [] exampleLayout) = true ∧ Instr.wf (.reqframeWrite 1 0x81 0 [0x15]) = true := by decide

/-- FrameDecodingLosesNoByte. -/
theorem test_witness_frames_decode :
    decode defaultParams (.requestFrame [0x01, 0x0A, 0x81, 0x00, 0x00, 0x00, 0xFF, 0xFF, 0x2C, 0x09]) =
      .ok (.reqframeRead 0x01 0x81 0) ∧
    decode defaultParams (.replyFrame ack) = .ok (.rpyframeWriteack 0x81 0x01 0xB0 0xEB) := by decide

/-- ReservedCodesAreRefused: the codes next to the table's. -/
theorem test_witness_reserved :
    ∀ c ∈ ([0x06, 0x0F, 0x12, 0x1F, 0x21, 0x2F, 0x32, 0x3F, 0x47, 0x4B, 0xFF] : List Byte),
      c ∉ ([0x00, 0x01, 0x02, 0x03, 0x04, 0x05, 0x10, 0x11, 0x20, 0x30, 0x31, 0x40, 0x41, 0x42, 0x43, 0x44, 0x45,
        0x46, 0x48, 0x49, 0x4A] : List Byte) := by decide

/-- ReservedCodesAreRefused: for REQ.READ operands that lie in their types at the ends, and a source above 255, a negative
register and one operand too few, each of which does not. -/
theorem test_witness_operands :
    signature 0x10 = some [.byte, .byte, .natural] ∧
      List.Forall₂ (fun t o => admits t o = true) [.byte, .byte, .natural] [.num 0, .num 255, .num 0x10000] ∧
      ¬ List.Forall₂ (fun t o => admits t o = true) [.byte, .byte, .natural] [.num 0, .num 256, .num 0] ∧
      ¬ List.Forall₂ (fun t o => admits t o = true) [.byte, .byte, .natural] [.num 0, .num 255, .num (-1)] ∧
      ¬ List.Forall₂ (fun t o => admits t o = true) [.byte, .byte, .natural] [.num 0, .num 255] := by
  simp [signature, admits]

/-- StepRunsTheDecodedInstruction: an input that decodes, one that does not, one that is no instruction, and none. -/
theorem test_witness_step :
    (State.reset.setPending [⟨none, .buildRequest 1 0x81 .write 0 none⟩]).pending =
        ⟨none, .buildRequest 1 0x81 .write 0 none⟩ :: [] ∧
    (State.reset.withFetchWord 8 0x00).pending = ⟨none, .instr (.operation 0x00 [])⟩ :: [] ∧
      decode State.reset.params (.operation 0x00 []) = .ok .crcInit ∧
      decode State.reset.params (.operation 0x47 []) = .error (.reservedCode 0x47) ∧
      State.reset.pending = [] := by decide

end Sys2Proof.Tests
end

section
/-! PROOFS. The step: one equation per case of the list of inputs (log entry 5), of the session an input names (R220), and
of what the decoder says of an encoded instruction (R41, R211). -/

namespace Sys2Proof.Machine

variable {s : State}

theorem step_of_no_input (h : s.pending = []) : step s = .next s := by simp only [step, h]

theorem step_of_oldest_input {i : Issue} {rest : List Issue} (h : s.pending = i :: rest) :
    step s = (s.setPending rest).take i := by simp only [step, h]

@[simp] theorem State.take_without_session (input : Input) : s.take ⟨none, input⟩ = s.run input := rfl

theorem State.run_instr_of_decode_ok {e : Encoded} {i : Instr} (h : decode s.params e = .ok i) :
    s.run (.instr e) = exec i s := by simp only [State.run, h]

theorem State.run_instr_of_decode_error {e : Encoded} {r : Reject} (h : decode s.params e = .error r) :
    s.run (.instr e) = .refused (.command r) := by simp only [State.run, h]

/-- An input that names no session runs on the state that has the other inputs waiting. -/
theorem step_of_input_without_session {input : Input} {rest : List Issue} (h : s.pending = ⟨none, input⟩ :: rest) :
    step s = (s.setPending rest).run input := by
  rw [step_of_oldest_input h, State.take_without_session]

/-- Settles O54: taking an input off the list leaves the parameters, so the decoder answers on the state that runs the input
as it does on the state that holds it. -/
theorem stepRunsTheDecodedInstruction : Obligations.StepRunsTheDecodedInstruction := by
  refine ⟨fun s input rest hp => ?runs, fun s e i rest hp hd => ?decodes, fun s e r rest hp hd => ?rejected,
    fun s hp => ?idle⟩
  case runs => exact step_of_input_without_session hp
  case decodes =>
    have hd' : decode (s.setPending rest).params e = .ok i := by rwa [State.setPending_params]
    exact (step_of_input_without_session hp).trans (State.run_instr_of_decode_ok hd')
  case rejected =>
    have hd' : decode (s.setPending rest).params e = .error r := by rwa [State.setPending_params]
    exact (step_of_input_without_session hp).trans (State.run_instr_of_decode_error hd')
  case idle => exact step_of_no_input hp

end Sys2Proof.Machine
end

section
/-! PROOFS. What an instruction that answers a next state can have done to the state, said once: it answered and nothing
more, it made one exchange and answered, or it is SES.REFRESH and replaced the Field Table by what the layout gives of the
reply (`spec/10_state.md` R10, `spec/44_session.md` R173, R174). -/

namespace Sys2Proof.Machine

/-- `t` is `s` with an answer to the caller and some accumulator: what an operation does that makes no exchange. -/
def State.AnswersOnly (s t : State) : Prop := ∃ (a : Option Accumulator) (r : Result), t = (s.setAcc a).answer r

/-- `u` is `s` right after one exchange on its session's adapter, one write or one write and one read (R175), the CRC of
the request having left the accumulator unwritten (log entry 10). -/
def State.AfterExchange (s u : State) : Prop :=
  ∃ (req : List Byte) (made : List TransportCall),
    (made = [.write req] ∨ made = [.write req, .read s.session.maxReply.toNat]) ∧
    u = (s.setAcc none).setTransport (s.transport.after made)

/-- What an instruction that answers `t` in `s` has done. -/
inductive ExecEffect (i : Instr) (s t : State) : Prop where
  /-- It answered, and nothing more; SES.REFRESH never ends so. -/
  | answers (hi : i ≠ .sesRefresh) (h : s.AnswersOnly t)
  /-- It made one exchange and answered. -/
  | exchanges (u : State) (hi : i.exchanges = true) (hu : s.AfterExchange u) (r : Result) (h : t = u.answer r)
  /-- It made one exchange and replaced the Field Table in one piece (R44). -/
  | refreshes (u : State) (hi : i = .sesRefresh) (hu : s.AfterExchange u) (raw : List Byte) (faults : List FaultValue)
      (h : t = (u.setTable (decodeTable raw s.session.layout.offset s.session.layout.fields)).answer (.ok faults))

variable {s t : State}

/-! ### The shared operations that only answer -/

theorem State.answersOnly_answer (s : State) (r : Result) : s.AnswersOnly (s.answer r) := ⟨s.acc, r, rfl⟩

theorem State.answersOnly_raise (s : State) (f : FaultValue) : s.AnswersOnly (s.raise f) := s.answersOnly_answer _

theorem State.answersOnly_feed (s : State) (f : Accumulator → Accumulator) : s.AnswersOnly (s.feed f) := by
  cases h : s.acc with
  | none => rw [State.feed_unwritten f h]; exact s.answersOnly_raise _
  | some a => rw [State.feed_written f h]; exact ⟨_, _, rfl⟩

theorem State.answersOnly_deliver (s : State) (r : Except BuildCause (List Byte)) : s.AnswersOnly (s.deliver r) := by
  cases r with
  | ok f => exact ⟨none, .frame f, rfl⟩
  | error c => exact s.answersOnly_raise _

theorem State.answersOnly_validateReply (s : State) (d x : Byte) (f : Func) (raw : List Byte) :
    s.AnswersOnly (s.validateReply d x f raw) := ⟨_, _, s.validateReply_eq d x f raw⟩

theorem State.answersOnly_getField (s : State) (i : Nat) (k : FieldEntry → Result) :
    s.AnswersOnly (s.getField i k) := by
  obtain ⟨-, h⟩ | ⟨e, -, -, -, h⟩ := s.getField_cases i k <;> rw [h]
  · exact s.answersOnly_raise _
  · exact s.answersOnly_answer _

/-- An outcome that is the next state `u` answers `u`. -/
theorem State.AnswersOnly.of_next {u : State} (hu : s.AnswersOnly u)
    (h : (.next u : Host.Outcome State Fault Refusal) = .next t) : s.AnswersOnly t := by
  cases h; exact hu

/-- A session's address lets a unit operation answer only what that operation answers (R106). -/
theorem State.withThermostat_next {c : Byte} {k : Byte → Host.Outcome State Fault Refusal}
    (h : s.withThermostat c k = .next t) : ∃ a, k a = .next t := by
  obtain ⟨a, -, e⟩ | ⟨-, e⟩ := s.withThermostat_cases c k <;> rw [e] at h
  · exact ⟨a, h⟩
  · cases h

/-! ### The instructions -/

theorem exec_crcRd_answersOnly (h : exec .crcRd s = .next t) : s.AnswersOnly t := by
  cases ha : s.acc with
  | none =>
    have e : exec .crcRd s = .next (s.raise .unwritten) := by simp only [exec, execCrcRd, ha]
    exact (s.answersOnly_raise _).of_next (e ▸ h)
  | some a =>
    have e : exec .crcRd s = .next (s.answer (.crc a.low a.high)) := by simp only [exec, execCrcRd, ha]
    exact (s.answersOnly_answer _).of_next (e ▸ h)

theorem exec_fldGet_answersOnly {raw : List Byte} {index : Nat} {offset : Int}
    (h : exec (.fldGet raw index offset) s = .next t) : s.AnswersOnly t := by
  cases hv : fieldByte raw index offset with
  | none =>
    have e : exec (.fldGet raw index offset) s = .next (s.raise (.decode index)) := by
      simp only [exec, execFldGet, hv]
    exact (s.answersOnly_raise _).of_next (e ▸ h)
  | some v =>
    have e : exec (.fldGet raw index offset) s = .next (s.answer (.byte v)) := by
      simp only [exec, execFldGet, hv]
    exact (s.answersOnly_answer _).of_next (e ▸ h)

theorem exec_fldDec_answersOnly {raw : List Byte} {layout : Layout}
    (h : exec (.fldDec raw layout) s = .next t) : s.AnswersOnly t := by
  simp only [exec, execFldDec] at h
  split at h
  · exact (s.answersOnly_answer _).of_next h
  · cases h

/-- An instruction that makes no exchange only answers. -/
theorem exec_answersOnly {i : Instr} (hi : i.exchanges = false) (h : exec i s = .next t) : s.AnswersOnly t := by
  cases i with
  | crcInit | crcRun | crcVfy => exact State.AnswersOnly.of_next ⟨_, _, rfl⟩ h
  | crcNib | crcByte => exact (s.answersOnly_feed _).of_next h
  | crcRd => exact exec_crcRd_answersOnly h
  | reqRead | reqWrite | reqframeRead | reqframeWrite => exact (s.answersOnly_deliver _).of_next h
  | rpyVal => exact (s.answersOnly_validateReply _ _ _ _).of_next h
  | fldGet => exact exec_fldGet_answersOnly h
  | fldDec => exact exec_fldDec_answersOnly h
  | sesGet | sesGetTarget | sesGetFloormax | sesGetMode | sesGetSensor =>
    exact (s.answersOnly_getField _ _).of_next h
  | rpyframeRead | rpyframeWriteack =>
    obtain ⟨a, h⟩ := State.withThermostat_next h
    exact (s.answersOnly_validateReply _ _ _ _).of_next h
  | sesRefresh | sesWrreg | sesSetTarget | sesSetFrost | sesSetFloormax => cases hi

/-- Every refresh that answers has made its exchange (R173): it then raises a fault or replaces the table. -/
theorem exec_sesRefresh_effect (h : exec .sesRefresh s = .next t) : ExecEffect .sesRefresh s t := by
  obtain ⟨a, h⟩ := State.withThermostat_next h
  obtain ⟨-, rfl⟩ := State.unlessSilent_next h
  obtain ⟨made, hm, ⟨f, e⟩ | ⟨raw, e, -⟩⟩ := s.roundTrip_cases .read a (readFrame s.params a masterAddr 0) _
  · exact .exchanges _ rfl ⟨_, made, hm, rfl⟩ (.fault f) e
  · exact .refreshes _ rfl ⟨_, made, hm, rfl⟩ raw _ e

/-- SES.WRREG's steps raise a fault before the exchange, or make it and answer (R174). -/
theorem State.writeRegister_effect {i : Instr} {r v : Nat} (hi : i ≠ .sesRefresh) (hx : i.exchanges = true)
    (h : s.writeRegister r v = .next t) : ExecEffect i s t := by
  obtain ⟨-, e⟩ | ⟨-, -, e⟩ | ⟨-, -, a, -, e⟩ | ⟨-, -, a, -, e⟩ := s.writeRegister_cases r v <;> rw [e] at h
  · exact .answers hi ((s.answersOnly_raise _).of_next h)
  · cases h
  · exact .answers hi ((s.answersOnly_raise _).of_next h)
  · obtain ⟨-, rfl⟩ := State.unlessSilent_next h
    obtain ⟨made, hm, ⟨f, e⟩ | ⟨raw, e, -⟩⟩ := s.roundTrip_cases .write a
      (writeFrame s.params a masterAddr (BitVec.ofNat 16 r) [BitVec.ofNat 8 v]) (fun _ s' => s'.answer (.ok []))
    · exact .exchanges _ hx ⟨_, made, hm, rfl⟩ (.fault f) e
    · exact .exchanges _ hx ⟨_, made, hm, rfl⟩ (.ok []) e

/-- A setter raises a RangeFault or does what SES.WRREG does (R181). -/
theorem State.setRegister_effect {i : Instr} {w : Setter} {g : Range} {r : Nat} {z : Int} (hi : i ≠ .sesRefresh)
    (hx : i.exchanges = true) (h : s.setRegister w g r z = .next t) : ExecEffect i s t := by
  obtain ⟨-, e⟩ | ⟨-, -, e⟩ := s.setRegister_cases w g r z <;> rw [e] at h
  · exact .answers hi ((s.answersOnly_raise _).of_next h)
  · exact State.writeRegister_effect hi hx h

/-- Everything an instruction that answers a next state can have done. -/
theorem exec_effect {i : Instr} (h : exec i s = .next t) : ExecEffect i s t := by
  cases hx : i.exchanges with
  | false => exact .answers (fun hi => by rw [hi] at hx; cases hx) (exec_answersOnly hx h)
  | true =>
    cases i with
    | sesRefresh => exact exec_sesRefresh_effect h
    | sesWrreg => exact State.writeRegister_effect nofun rfl h
    | sesSetTarget | sesSetFrost | sesSetFloormax => exact State.setRegister_effect nofun rfl h
    | _ => cases hx

end Sys2Proof.Machine
end

section
/-! PROOFS. The invariant of the whole machine (`spec/10_state.md` R17, `spec/43_field_decode.md` R150): kept by everything
a step is made of, and met at reset. -/

namespace Sys2Proof.Machine

variable {s t u : State}

/-- A session whose Field Table is empty is sound when its layout is well formed (R23, R150). -/
theorem Session.new_sound (k : Nat) (a : Int) {l : Layout} (n : ReplySize) (x : SessionAttrs) (h : l.wf = true) :
    (Session.new k a l n x).Sound := ⟨h, List.nil_sublist _⟩

theorem State.AnswersOnly.inv (h : s.AnswersOnly t) (hs : s.Inv) : t.Inv := by
  obtain ⟨a, r, rfl⟩ := h
  exact hs

theorem State.AfterExchange.inv (h : s.AfterExchange u) (hs : s.Inv) : u.Inv := by
  obtain ⟨req, made, -, rfl⟩ := h
  obtain ⟨hx, ho, ha⟩ := hs
  exact ⟨hx, ho, writeAdapter_nodup _ _ ha⟩

/-- The table FLD.DEC makes from the session's own layout has the layout's form, whatever the reply. -/
theorem State.Inv.setTable_decodeTable (hs : s.Inv) (raw : List Byte) (o : Int) :
    (s.setTable (decodeTable raw o s.session.layout.fields)).Inv := by
  obtain ⟨⟨hl, -⟩, ho, ha⟩ := hs
  exact ⟨⟨hl, decodeTable_sublist _ _ _⟩, ho, ha⟩

theorem State.AfterExchange.session_eq (h : s.AfterExchange u) : u.session = s.session := by
  obtain ⟨req, made, -, rfl⟩ := h
  rfl

theorem exec_inv {i : Instr} (h : exec i s = .next t) (hs : s.Inv) : t.Inv := by
  cases exec_effect h with
  | answers _ ha => exact ha.inv hs
  | exchanges u _ hu r e =>
    subst e
    exact hu.inv hs
  | refreshes u _ hu raw faults e =>
    subst e
    rw [← hu.session_eq]
    exact (hu.inv hs).setTable_decodeTable raw _

/-- Construction refuses a layout with a repeated index, so the session it makes is sound (R150, R171). -/
theorem State.construct_inv {k : Nat} {m : Label} {found : LookupAnswer} {a : Int} {n : ReplySize} {x : SessionAttrs}
    (h : s.construct k m found a n x = .next t) (hs : s.Inv) : t.Inv := by
  obtain ⟨-, e⟩ | ⟨l, -, hl, e⟩ | ⟨l, -, -, e⟩ := State.construct_cases k m found a n x s <;> rw [e] at h <;> cases h
  · exact hs
  · obtain ⟨hx, ho, ha⟩ := hs
    exact ⟨Session.new_sound k a n x hl, List.forall_mem_cons.2 ⟨hx, ho⟩, ha⟩

theorem State.run_inv {input : Input} (h : s.run input = .next t) (hs : s.Inv) : t.Inv := by
  cases input with
  | instr e =>
    cases hd : decode s.params e with
    | ok i => exact exec_inv (State.run_instr_of_decode_ok hd ▸ h) hs
    | error r => rw [State.run_instr_of_decode_error hd] at h; cases h
  | buildRequest => exact ((s.answersOnly_deliver _).of_next h).inv hs
  | construct => exact State.construct_inv h hs

/-- Choosing a session reorders the sessions, so all stay sound (R220). -/
theorem State.select_inv {n : SessionName} (h : s.select n = some t) (hs : s.Inv) : t.Inv := by
  obtain ⟨-, hp, e⟩ := State.select_some h
  obtain ⟨hx, ho, ha⟩ := hs
  have hsound : ∀ x ∈ s.session :: s.others, x.Sound := List.forall_mem_cons.2 ⟨hx, ho⟩
  have hsound' : ∀ x ∈ t.session :: t.others, x.Sound := fun x hm => hsound x (hp.mem_iff.2 hm)
  obtain ⟨hx', ho'⟩ := List.forall_mem_cons.1 hsound'
  exact ⟨hx', ho', by rw [e]; exact ha⟩

theorem State.take_inv {i : Issue} (h : s.take i = .next t) (hs : s.Inv) : t.Inv := by
  obtain ⟨name, input⟩ := i
  cases name with
  | none => exact State.run_inv h hs
  | some n =>
    simp only [State.take] at h
    split at h
    case h_1 u hu => exact State.run_inv h (State.select_inv hu hs)
    case h_2 => cases h

/-- Settles O37: the table changes only where a refresh decodes a reply by the session's own layout, and the sessions only
where one is chosen or constructed. -/
theorem stepKeepsTheFieldTableForm : Obligations.StepKeepsTheFieldTableForm := by
  intro s t hs h
  cases hp : s.pending with
  | nil => rw [step_of_no_input hp] at h; cases h; exact hs
  | cons i rest => exact State.take_inv (s := s.setPending rest) (step_of_oldest_input hp ▸ h) hs

/-- The invariant reads neither the script of the one adapter listed nor the inputs waiting (log entry 3). -/
theorem State.reset_inv_with_adapter (k : Nat) (tr : Transport) (q : List Issue) :
    ({ State.reset with adapters := [(k, tr)], pending := q } : State).Inv :=
  ⟨Session.new_sound _ _ _ _ (by decide), nofun, List.nodup_singleton k⟩

/-- Settles O38: at reset there is one session, its table empty, and at most one adapter is listed. -/
theorem resetMeetsTheFieldTableForm : Obligations.ResetMeetsTheFieldTableForm :=
  ⟨⟨Session.new_sound _ _ _ _ (by decide), nofun, List.nodup_nil⟩,
    fun k sc q => State.reset_inv_with_adapter k _ q⟩

end Sys2Proof.Machine
end

section
/-! PROOFS. What an instruction leaves unchanged, and what the block holds right after reset (`spec/10_state.md` R10, R12,
R23). -/

namespace Sys2Proof.Machine

variable {s t u : State}

/-- Settles O40: an answer and an exchange both keep the session. -/
theorem onlyRefreshWritesTheFieldTable : Obligations.OnlyRefreshWritesTheFieldTable := by
  intro i s t h hne
  cases exec_effect h with
  | answers _ ha =>
    obtain ⟨a, r, rfl⟩ := ha
    exact absurd rfl hne
  | exchanges u _ hu r e =>
    subst e
    exact absurd (congrArg Session.table hu.session_eq) hne
  | refreshes _ hi => exact hi

/-- Settles O41: an answer, an exchange and a replaced table each write fields other than these. -/
theorem attributesAndParametersAreConstant : Obligations.AttributesAndParametersAreConstant := by
  intro i s t h
  cases exec_effect h with
  | answers _ ha =>
    obtain ⟨a, r, rfl⟩ := ha
    simp
  | exchanges u _ hu r e =>
    obtain ⟨req, made, -, rfl⟩ := hu
    subst e
    simp
  | refreshes u _ hu raw faults e =>
    obtain ⟨req, made, -, rfl⟩ := hu
    subst e
    simp

/-! ### The accumulator (log entry 10) -/

theorem State.deliver_acc_of_frame {r : Except BuildCause (List Byte)} {f : List Byte}
    (h : (s.deliver r).result = some (.frame f)) : (s.deliver r).acc = none := by
  cases r with
  | ok => rfl
  | error => simp at h

theorem State.deliver_acc_of_fault {r : Except BuildCause (List Byte)} {f : FaultValue}
    (h : (s.deliver r).result = some (.fault f)) : (s.deliver r).acc = s.acc := by
  cases r with
  | ok => simp at h
  | error => rfl

theorem State.validateReply_acc (s : State) (d x : Byte) (f : Func) (raw : List Byte) :
    (s.validateReply d x f raw).acc = if 2 ≤ raw.length then none else s.acc := by
  rw [State.validateReply_eq]

theorem State.AfterExchange.acc_eq (h : s.AfterExchange u) : u.acc = none := by
  obtain ⟨req, made, -, rfl⟩ := h
  rfl

/-- An instruction that is SES.REFRESH, or has changed an adapter, has made an exchange. -/
theorem exec_acc_of_exchange {i : Instr} (h : exec i s = .next t) (hx : i = .sesRefresh ∨ t.adapters ≠ s.adapters) :
    t.acc = none := by
  cases exec_effect h with
  | answers hi ha =>
    obtain ⟨a, r, rfl⟩ := ha
    exact absurd rfl (hx.resolve_left hi)
  | exchanges u _ hu r e =>
    subst e
    exact hu.acc_eq
  | refreshes u _ hu raw faults e =>
    subst e
    exact hu.acc_eq

/-- Settles O44: a frame, a reply of 2 bytes and an exchange each had a CRC computed. -/
theorem innerCrcLeavesAccumulatorUnwritten : Obligations.InnerCrcLeavesAccumulatorUnwritten := by
  refine ⟨?build, ?validate, fun s t h => exec_acc_of_exchange h (.inl rfl),
    fun i s t _ h hne => exec_acc_of_exchange h (.inr hne)⟩
  case build =>
    rintro i s t d x r pl (rfl | rfl) h <;> cases h <;>
      exact ⟨fun f => State.deliver_acc_of_frame, fun f => State.deliver_acc_of_fault⟩
  case validate =>
    intro s t d x f raw h
    cases h
    rw [State.validateReply_acc]
    exact ⟨fun hl => if_pos hl, fun hl => if_neg (by omega)⟩

/-! ### RPY.VAL's record -/

/-- RPY.VAL's operation code and operands (R70). -/
theorem decodeOperation_rpyVal (d x : Byte) (f : Func) (raw : List Byte) :
    decodeOperation 0x20 [natOperand d.toNat, natOperand x.toNat, natOperand f.code.toNat, .bytes raw] =
      .ok (.rpyVal d x f raw) := by
  simp [decodeOperation, bind, Except.bind, pure, Except.pure]

/-- The record's `valid` says that no bit of VSTAT is set (R14, R132). -/
theorem ValidationRecord.valid_iff (v : ValidationRecord) : v.valid = true ↔ v.vstat = 0 := beq_iff_eq

/-- No length is declared where byte 2 is missing (R15). -/
theorem validate_frameLen_of_short (p : Params) (d x : Byte) (f : Func) {raw : List Byte} (h : raw.length < 3) :
    (validate p d x f raw).frameLen = none := by
  have h2 : raw[2]? = none := List.getElem?_eq_none (by omega)
  have e : (validate p d x f raw).frameLen = memRead16 raw 1 := rfl
  rw [e, memRead16_one, h2]
  cases raw[1]? <;> rfl

theorem validate_frameLen_of_bytes (p : Params) (d x : Byte) (f : Func) {raw : List Byte} {lo hi : Byte}
    (h1 : raw[1]? = some lo) (h2 : raw[2]? = some hi) : (validate p d x f raw).frameLen = some (le16 lo hi) := by
  have e : (validate p d x f raw).frameLen = memRead16 raw 1 := rfl
  rw [e, memRead16_one, h1, h2]

/-- Settles O18: the record is `validate`'s, whose header fields are reads of the frame's bytes. -/
theorem rpyValAlwaysAnswersARecord : Obligations.RpyValAlwaysAnswersARecord := by
  refine ⟨fun s d x f raw => State.run_instr_of_decode_ok (decodeOperation_rpyVal d x f raw), fun s d x f raw =>
    ⟨if 2 ≤ raw.length then none else s.acc, validate s.params d x f raw, ?_, rfl, memRead_zero raw, memRead_three raw,
      memRead_four raw, validate_frameLen_of_short _ d x f, fun _ _ => validate_frameLen_of_bytes _ d x f,
      ValidationRecord.valid_iff _⟩⟩
  exact congrArg Host.Outcome.next (s.validateReply_eq d x f raw)

/-! ### Reset -/

/-- Settles O39: nothing has written the accumulator, and the empty table has no key (decision D19). -/
theorem resetLeavesNothingWritten : Obligations.ResetLeavesNothingWritten := by
  have hacc : State.reset.acc = none := rfl
  have hkey (i : Nat) : FieldTable.lookup State.reset.session.table i = none := rfl
  refine ⟨hacc, rfl, rfl, fun v => ?nib, fun b => ?byte, fun i => ?get⟩
  case nib => exact congrArg State.result (State.feed_unwritten _ hacc)
  case byte => exact congrArg State.result (State.feed_unwritten _ hacc)
  case get => exact congrArg State.result (State.getField_absent _ (hkey i))

end Sys2Proof.Machine
end

section
/-! PROOFS. What the result of an operation depends on (`spec/20_memory.md` R41): two states that agree on the accumulator,
the active session, that session's adapter and the parameters give every instruction one result. One lemma per shared
operation, then the instructions. -/

namespace Sys2Proof.Machine

open Sys2Proof.Claims

/-- `s` and `s'` agree on everything R41 lets a result depend on besides the operands; the other sessions, the other
adapters, the earlier result and the waiting inputs are free. -/
structure State.Agrees (s s' : State) : Prop where
  acc : s.acc = s'.acc
  session : s.session = s'.session
  transport : s.transport = s'.transport
  params : s.params = s'.params

variable {s s' : State}

/-! ### The operations that make no exchange -/

/-- A fed accumulator's answer says only whether it was written. -/
theorem State.Agrees.feed_result (h : s.Agrees s') (f g : Accumulator → Accumulator) :
    (s.feed f).result = (s'.feed g).result := by
  cases ha : s.acc with
  | none => rw [State.feed_unwritten f ha, State.feed_unwritten g (h.acc ▸ ha)]; rfl
  | some a => rw [State.feed_written f ha, State.feed_written g (h.acc ▸ ha)]; rfl

/-- A built frame or a BuildFault is answered as it is, whatever the state. -/
theorem State.deliver_result_eq (s s' : State) (r : Except BuildCause (List Byte)) :
    (s.deliver r).result = (s'.deliver r).result := by
  cases r <;> rfl

theorem State.Agrees.validateReply_result (h : s.Agrees s') (d x : Byte) (f : Func) (raw : List Byte) :
    (s.validateReply d x f raw).result = (s'.validateReply d x f raw).result := by
  rw [State.validateReply_eq, State.validateReply_eq, h.params]

theorem State.Agrees.getField_result (h : s.Agrees s') (i : Nat) (k : FieldEntry → Result) :
    (s.getField i k).result = (s'.getField i k).result := by
  cases hl : FieldTable.lookup s.session.table i with
  | none => rw [State.getField_absent k hl, State.getField_absent k (h.session ▸ hl)]; rfl
  | some e => rw [State.getField_present k hl, State.getField_present k (h.session ▸ hl)]; rfl

theorem State.Agrees.resultOf_crcRd (h : s.Agrees s') : resultOf (exec .crcRd s) = resultOf (exec .crcRd s') := by
  simp only [exec, execCrcRd, h.acc]
  cases s'.acc <;> rfl

theorem resultOf_fldGet_eq (s s' : State) (raw : List Byte) (i : Nat) (o : Int) :
    resultOf (exec (.fldGet raw i o) s) = resultOf (exec (.fldGet raw i o) s') := by
  simp only [exec, execFldGet]
  cases fieldByte raw i o <;> rfl

theorem resultOf_fldDec_eq (s s' : State) (raw : List Byte) (l : Layout) :
    resultOf (exec (.fldDec raw l) s) = resultOf (exec (.fldDec raw l) s') := by
  simp only [exec, execFldDec]
  split <;> rfl

/-! ### The session's address and its exchange -/

theorem State.Agrees.resultOf_withThermostat (h : s.Agrees s') (c : Byte)
    {k k' : Byte → Host.Outcome State Fault Refusal} (hk : ∀ a, resultOf (k a) = resultOf (k' a)) :
    resultOf (s.withThermostat c k) = resultOf (s'.withThermostat c k') := by
  obtain ⟨a, ha, e⟩ | ⟨ha, e⟩ := s.withThermostat_cases c k <;> rw [e]
  · rw [State.withThermostat_byte c k' (h.session ▸ ha)]
    exact hk a
  · rw [State.withThermostat_outside c k' (h.session ▸ ha)]
    rfl

theorem State.Agrees.resultOf_unlessSilent (h : s.Agrees s') {u u' : State} (hu : u.result = u'.result) :
    resultOf (s.unlessSilent u) = resultOf (s'.unlessSilent u') := by
  cases ht : s.transport.silent with
  | true => rw [State.unlessSilent_of_silent ht, State.unlessSilent_of_silent (h.transport ▸ ht)]
  | false =>
    rw [State.unlessSilent_of_not ht, State.unlessSilent_of_not (h.transport ▸ ht)]
    exact hu

/-- One adapter in one state answers the next exchange in one way (R172). -/
theorem State.Agrees.nextAnswer (h : s.Agrees s') : s.nextAnswer = s'.nextAnswer := by
  simp only [State.nextAnswer, h.transport, h.session]

/-- A round trip's result is decided by the adapter's answer, the parameters and, on a valid reply, by what `done` makes
of a state with the same session. -/
theorem State.Agrees.roundTrip_result (h : s.Agrees s') (func : Func) (a : Byte) (req : List Byte)
    {done : List Byte → State → State}
    (hdone : ∀ raw u u', u.session = u'.session → (done raw u).result = (done raw u').result) :
    (s.roundTrip func a req done).result = (s'.roundTrip func a req done).result := by
  have hn := h.nextAnswer
  cases ha : s'.nextAnswer with
  | writeFault e => rw [State.roundTrip_writeFault done (hn.trans ha), State.roundTrip_writeFault done ha]; rfl
  | readFault e => rw [State.roundTrip_readFault done (hn.trans ha), State.roundTrip_readFault done ha]; rfl
  | reply bs =>
    cases hv : (validate s.params masterAddr a func (bs.take s.session.maxReply.toNat)).valid with
    | false =>
      rw [State.roundTrip_invalid done (hn.trans ha) hv, State.roundTrip_invalid done ha (h.params ▸ h.session ▸ hv),
        h.params, h.session]
      rfl
    | true =>
      rw [State.roundTrip_valid done (hn.trans ha) hv, State.roundTrip_valid done ha (h.params ▸ h.session ▸ hv),
        h.session]
      exact hdone _ _ _ h.session

theorem State.Agrees.resultOf_sesRefresh (h : s.Agrees s') :
    resultOf (exec .sesRefresh s) = resultOf (exec .sesRefresh s') := by
  refine h.resultOf_withThermostat _ fun a => h.resultOf_unlessSilent ?_
  rw [h.params]
  exact h.roundTrip_result _ _ _ fun raw u u' hu => by simp [hu]

theorem State.Agrees.resultOf_writeRegister (h : s.Agrees s') (r v : Nat) :
    resultOf (s.writeRegister r v) = resultOf (s'.writeRegister r v) := by
  unfold State.writeRegister
  split
  · rfl
  · refine h.resultOf_withThermostat _ fun a => ?_
    rw [h.params]
    cases buildWrite s'.params a masterAddr r [BitVec.ofNat 8 v] with
    | error c => rfl
    | ok req => exact h.resultOf_unlessSilent (h.roundTrip_result _ _ _ fun _ _ _ _ => rfl)

theorem State.Agrees.resultOf_setRegister (h : s.Agrees s') (w : Setter) (g : Range) (r : Nat) (z : Int) :
    resultOf (s.setRegister w g r z) = resultOf (s'.setRegister w g r z) := by
  unfold State.setRegister
  split
  · rfl
  · exact h.resultOf_writeRegister r z.toNat

/-! ### The instructions -/

theorem State.Agrees.resultOf_exec (h : s.Agrees s') (i : Instr) : resultOf (exec i s) = resultOf (exec i s') := by
  cases i with
  | crcInit => rfl
  | crcNib | crcByte => exact h.feed_result _ _
  | crcRd => exact h.resultOf_crcRd
  | crcRun | crcVfy => simp only [exec, execCrcRun, execCrcVfy, h.params]; rfl
  | reqRead | reqWrite | reqframeRead | reqframeWrite =>
    simp only [exec, execReqRead, execReqWrite, execReqframeRead, execReqframeWrite, h.params]
    exact s.deliver_result_eq s' _
  | rpyVal => exact h.validateReply_result _ _ _ _
  | fldGet => exact resultOf_fldGet_eq s s' _ _ _
  | fldDec => exact resultOf_fldDec_eq s s' _ _
  | sesRefresh => exact h.resultOf_sesRefresh
  | sesWrreg => exact h.resultOf_writeRegister _ _
  | sesGet | sesGetTarget => exact h.getField_result _ _
  | sesGetFloormax | sesGetMode | sesGetSensor =>
    simp only [exec, execSesGetFloormax, execSesGetMode, execSesGetSensor, h.session]
    exact h.getField_result _ _
  | sesSetTarget | sesSetFrost | sesSetFloormax =>
    simp only [exec, execSesSetTarget, execSesSetFrost, execSesSetFloormax, h.params, h.session]
    exact h.resultOf_setRegister _ _ _ _
  | rpyframeRead | rpyframeWriteack =>
    exact h.resultOf_withThermostat _ fun a => h.validateReply_result _ _ _ _

/-- Settles O46: the four premises are the agreement that every instruction's result respects. -/
theorem resultsDependOnNothingElse : Obligations.ResultsDependOnNothingElse :=
  fun i _ _ hacc hses htr hpar => State.Agrees.resultOf_exec ⟨hacc, hses, htr, hpar⟩ i

end Sys2Proof.Machine
end

section
/-! PROOFS. The frames of the wire (`spec/30_encoding.md` R51, R52, R60): what each frame rule builds decodes to its frame
kind, and nothing else decodes to it; then every instruction's encoded form decodes to it (R70). -/

namespace Sys2Proof.Machine

@[simp] theorem lo8_le16 (lo hi : Byte) : lo8 (le16 lo hi) = lo := by
  have := lo.isLt
  apply BitVec.eq_of_toNat_eq
  rw [lo8_toNat, le16_toNat]; omega

@[simp] theorem hi8_le16 (lo hi : Byte) : hi8 (le16 lo hi) = hi := by
  have := lo.isLt
  apply BitVec.eq_of_toNat_eq
  rw [hi8_toNat, le16_toNat]; omega

/-- A body with its computed trailer verifies (R58). -/
theorem crcVerify_withTrailer (p : Params) (m : List Byte) :
    crcVerify p (bodyOf (withTrailer p m)) (trailerOf (withTrailer p m)) = true := by
  rw [bodyOf_withTrailer, trailerOf_withTrailer, crcVerify_iff]

/-- A frame that verifies is its body with the computed trailer (R58). -/
theorem withTrailer_bodyOf {p : Params} {f : List Byte} (h : crcVerify p (bodyOf f) (trailerOf f) = true) :
    withTrailer p (bodyOf f) = f := by
  rw [withTrailer, ← (crcVerify_iff _ _ _).1 h, bodyOf_append_trailerOf]

/-- The last two bytes are those of the part that holds them. -/
theorem bodyOf_append {front rest : List Byte} (hr : 2 ≤ rest.length) :
    bodyOf (front ++ rest) = front ++ bodyOf rest := by
  rw [bodyOf, List.length_append, Nat.add_sub_assoc hr, List.take_length_add_append, bodyOf]

theorem bodyOf_length (f : List Byte) : (bodyOf f).length = f.length - 2 := by simp [bodyOf]

/-! ### Requests -/

/-- The constraints the opcode table lists for the two request kinds, on the bytes of a frame (R51, R56, R60). -/
theorem decodeRequest_eq_ok_iff {p : Params} {d n x fn rl rh ll lh : Byte} {rest f : List Byte} {i : Instr}
    (hf : f = d :: n :: x :: fn :: rl :: rh :: ll :: lh :: rest) :
    decodeRequest p f = .ok i ↔
      2 ≤ rest.length ∧ n.toNat = 8 + rest.length ∧ crcVerify p (bodyOf f) (trailerOf f) = true ∧
        ((fn = Func.read.code ∧ rest.length = 2 ∧ le16 ll lh = p.lenAll ∧ i = .reqframeRead d x (le16 rl rh)) ∨
          (fn = Func.write.code ∧ (le16 ll lh).toNat = rest.length - 2 ∧
            i = .reqframeWrite d x (le16 rl rh) (bodyOf rest))) := by
  have hrw : Func.read.code ≠ Func.write.code := by decide
  have hl : f.length = 8 + rest.length := by simp [hf]; omega
  subst hf
  simp only [decodeRequest, hl]
  generalize crcVerify p _ _ = v
  split_ifs with hs hn hv hr h10 hall hw hlen <;> grind

theorem decodeRequest_readFrame (p : Params) (d x : Byte) (r : Half) :
    decodeRequest p (readFrame p d x r) = .ok (.reqframeRead d x r) := by
  have hv := crcVerify_withTrailer p (requestHeader d 10 x .read r p.lenAll)
  exact (decodeRequest_eq_ok_iff rfl).2
    ⟨Nat.le_refl 2, rfl, hv, .inl ⟨rfl, rfl, le16_lo8_hi8 _, by rw [le16_lo8_hi8]⟩⟩

theorem decodeRequest_writeFrame (p : Params) (d x : Byte) (r : Half) {pl : List Byte} (h : pl.length ≤ 245) :
    decodeRequest p (writeFrame p d x r pl) = .ok (.reqframeWrite d x r pl) := by
  have hv := crcVerify_withTrailer p
    (requestHeader d (BitVec.ofNat 8 (10 + pl.length)) x .write r (BitVec.ofNat 16 pl.length) ++ pl)
  refine (decodeRequest_eq_ok_iff (rest := pl ++ [_, _]) rfl).2 ⟨by simp, ?total, hv, .inr ⟨rfl, ?len, ?instr⟩⟩
  case total => simp; omega
  case len => rw [le16_lo8_hi8]; simp; omega
  case instr => rw [le16_lo8_hi8, bodyOf_append_pair]

/-- A request that decodes is the frame its kind's rule builds: no byte of it is free. -/
theorem decodeRequest_cases {p : Params} {f : List Byte} {i : Instr} (h : decodeRequest p f = .ok i) :
    (∃ d x r, i = .reqframeRead d x r ∧ f = readFrame p d x r) ∨
      (∃ d x r pl, i = .reqframeWrite d x r pl ∧ pl.length ≤ 245 ∧ f = writeFrame p d x r pl) := by
  obtain ⟨d, n, x, fn, rl, rh, ll, lh, rest, hf⟩ : ∃ d n x fn rl rh ll lh rest,
      f = d :: n :: x :: fn :: rl :: rh :: ll :: lh :: rest := by
    unfold decodeRequest at h
    split at h
    · exact ⟨_, _, _, _, _, _, _, _, _, rfl⟩
    · cases h
  obtain ⟨h2, hn, hv, hk⟩ := (decodeRequest_eq_ok_iff hf).1 h
  have hb : bodyOf f = [d, n, x, fn, rl, rh, ll, lh] ++ bodyOf rest := by
    rw [hf]; exact bodyOf_append (front := [d, n, x, fn, rl, rh, ll, lh]) h2
  have hfb := withTrailer_bodyOf hv
  have hlen := bodyOf_length rest
  have hlt := n.isLt
  rw [hb] at hfb
  obtain ⟨rfl, h2', hall, hi⟩ | ⟨rfl, hll, hi⟩ := hk
  · refine .inl ⟨d, x, le16 rl rh, hi, ?_⟩
    have hn10 : n = 10 := BitVec.eq_of_toNat_eq (by simp [hn, h2'])
    have hnil : bodyOf rest = [] := List.eq_nil_of_length_eq_zero (by omega)
    rw [← hfb, hnil, hn10, readFrame, requestHeader, ← hall]
    simp
  · refine .inr ⟨d, x, le16 rl rh, bodyOf rest, hi, by omega, ?_⟩
    have hnl : BitVec.ofNat 8 (10 + (bodyOf rest).length) = n := BitVec.eq_of_toNat_eq (by simp; omega)
    have hpl : BitVec.ofNat 16 (bodyOf rest).length = le16 ll lh :=
      BitVec.eq_of_toNat_eq (by rw [hll, BitVec.toNat_ofNat]; omega)
    rw [← hfb, writeFrame, hnl, hpl, requestHeader]
    simp

/-! ### Replies -/

theorem decodeReply_replyFrameBytes_read (d ll lh x : Byte) (pl : List Byte) (cl ch : Byte) :
    decodeReply (replyFrameBytes d ll lh x .read pl cl ch) = .ok (.rpyframeRead d ll lh x pl cl ch) := by
  simp [decodeReply, replyFrameBytes]

theorem decodeReply_writeAckBytes (d x cl ch : Byte) :
    decodeReply (writeAckBytes d x cl ch) = .ok (.rpyframeWriteack d x cl ch) := rfl

/-- A reply that decodes is the frame of its kind with the fields read from it. -/
theorem decodeReply_cases {f : List Byte} {i : Instr} (h : decodeReply f = .ok i) :
    (∃ d ll lh x pl cl ch, i = .rpyframeRead d ll lh x pl cl ch ∧ f = replyFrameBytes d ll lh x .read pl cl ch) ∨
      (∃ d x cl ch, i = .rpyframeWriteack d x cl ch ∧ f = writeAckBytes d x cl ch) := by
  unfold decodeReply at h
  split at h
  case h_2 => cases h
  case h_1 d ll lh x fn rest =>
    split at h
    case h_2 => cases h
    case h_1 cl ch ht =>
      have hrest : rest = bodyOf rest ++ [cl, ch] := by rw [← ht, bodyOf_append_trailerOf]
      split_ifs at h with hr hw
      · cases h
        exact .inl ⟨d, ll, lh, x, bodyOf rest, cl, ch, rfl, by rw [hr, replyFrameBytes, List.append_assoc, ← hrest]; rfl⟩
      · cases h
        obtain ⟨rfl, rfl, rfl, h2⟩ := hw
        have hnil : bodyOf rest = [] := List.eq_nil_of_length_eq_zero (by rw [bodyOf_length, h2])
        exact .inr ⟨d, x, cl, ch, rfl, by rw [hrest, hnil]; rfl⟩

/-- Settles O51: what each direction accepts is the frame its kind encodes to. -/
theorem frameDecodingLosesNoByte : Obligations.FrameDecodingLosesNoByte := by
  refine fun p f i => ⟨fun h => ?request, fun h => ?reply⟩
  case request =>
    obtain ⟨d, x, r, rfl, rfl⟩ | ⟨d, x, r, pl, rfl, hl, rfl⟩ := decodeRequest_cases h
    · exact ⟨rfl, rfl⟩
    · exact ⟨rfl, decide_eq_true hl⟩
  case reply =>
    obtain ⟨d, ll, lh, x, pl, cl, ch, rfl, rfl⟩ | ⟨d, x, cl, ch, rfl, rfl⟩ := decodeReply_cases h
    · exact ⟨rfl, rfl⟩
    · exact ⟨rfl, rfl⟩

/-! ### Every instruction -/

/-- Settles O50: the operand checks undo the operand values of an operation, and a frame rule's frame decodes to its
kind. -/
theorem decodeOfEncodeIsIdentity : Obligations.DecodeOfEncodeIsIdentity := by
  intro p i hi
  cases i with
  | crcInit | crcRd | sesRefresh | sesGetTarget | sesGetFloormax | sesGetMode | sesGetSensor => rfl
  | crcRun | crcVfy | sesSetTarget | sesSetFrost | sesSetFloormax => rfl
  | crcNib | crcByte | sesGet => simp [encode, decode, decodeOperation, oneOperand, Except.map]
  | rpyVal d x f raw => exact decodeOperation_rpyVal d x f raw
  | reqRead | reqWrite | fldGet | sesWrreg =>
    simp [encode, decode, decodeOperation, bind, Except.bind, pure, Except.pure]
  | fldDec raw l =>
    simp [encode, decode, decodeOperation, bind, Except.bind, pure, Except.pure, asLayout_layout _ hi]
  | reqframeRead d x r => exact decodeRequest_readFrame p d x r
  | reqframeWrite d x r pl => exact decodeRequest_writeFrame p d x r (of_decide_eq_true hi)
  | rpyframeRead d ll lh x pl cl ch => exact decodeReply_replyFrameBytes_read d ll lh x pl cl ch
  | rpyframeWriteack d x cl ch => exact decodeReply_writeAckBytes d x cl ch

end Sys2Proof.Machine
end

section
/-! PROOFS. The operation codes and the operand types of R70 (`spec/30_encoding.md` R70, R71, `spec/60_exceptions.md` R211):
each operand check accepts exactly its type, so the decoder accepts exactly the operands that a code's signature lists. -/

namespace Sys2Proof.Machine

open Sys2Proof.Claims

/-- `r`, what the decoder says of `ops`, is an instruction exactly when `ops` are as many as `ts` and lie in these types
(R70). -/
def AcceptsAs (r : Except Reject Instr) (ts : List OperandType) (ops : List Operand) : Prop :=
  (∃ i, r = .ok i) ↔ List.Forall₂ (fun t o => admits t o = true) ts ops

theorem AcceptsAs.nil (i : Instr) : AcceptsAs (pure i) [] [] := by simp [AcceptsAs, pure, Except.pure]

theorem AcceptsAs.cons {α : Type} {x : Except Reject α} {k : α → Except Reject Instr} {t : OperandType}
    {o : Operand} {ts : List OperandType} {ops : List Operand} (hx : (∃ a, x = .ok a) ↔ admits t o = true)
    (hk : ∀ a, AcceptsAs (k a) ts ops) : AcceptsAs (x >>= k) (t :: ts) (o :: ops) := by
  rw [AcceptsAs, List.forall₂_cons, ← hx]
  cases x with
  | error r => simp [bind, Except.bind]
  | ok a => simpa [bind, Except.bind, AcceptsAs] using hk a

/-! ### One operand against its type -/

theorem asNat_accepts_iff (c : Byte) (o : Operand) : (∃ n, asNat c o = .ok n) ↔ admits .natural o = true := by
  cases o with
  | num z => simp only [asNat, admits]; split <;> simp_all
  | bytes | layout => simp [asNat, admits]

theorem asNibble_accepts_iff (c : Byte) (o : Operand) : (∃ n, asNibble c o = .ok n) ↔ admits .nibble o = true := by
  cases o with
  | num z => simp only [asNibble, admits]; split <;> simp_all
  | bytes | layout => simp [asNibble, admits]

theorem asByte_accepts_iff (c : Byte) (o : Operand) : (∃ b, asByte c o = .ok b) ↔ admits .byte o = true := by
  cases o with
  | num z => simp only [asByte, admits, byteOf]; split <;> simp_all
  | bytes | layout => simp [asByte, admits]

theorem asInt_accepts_iff (c : Byte) (o : Operand) : (∃ z, asInt c o = .ok z) ↔ admits .integer o = true := by
  cases o <;> simp [asInt, admits]

theorem asFunc_accepts_iff (c : Byte) (o : Operand) : (∃ f, asFunc c o = .ok f) ↔ admits .function o = true := by
  cases o with
  | num z => simp only [asFunc, admits]; split_ifs <;> simp_all
  | bytes | layout => simp [asFunc, admits]

theorem asBytes_accepts_iff (c : Byte) (o : Operand) : (∃ m, asBytes c o = .ok m) ↔ admits .bytes o = true := by
  cases o <;> simp [asBytes, admits]

theorem asLayout_accepts_iff (c : Byte) (o : Operand) : (∃ l, asLayout c o = .ok l) ↔ admits .layout o = true := by
  cases o with
  | layout l => simp only [asLayout, admits, ← Layout.wf_iff, decide_eq_true_eq]; split <;> simp_all
  | num | bytes => simp [asLayout, admits]

/-! ### An operation code with its operands -/

theorem noOperands_acceptsAs (c : Byte) (i : Instr) (ops : List Operand) : AcceptsAs (noOperands c i ops) [] ops := by
  cases ops <;> simp [AcceptsAs, noOperands]

theorem oneOperand_acceptsAs {α : Type} {c : Byte} {f : Operand → Except Reject α} {t : OperandType} (k : α → Instr)
    (hf : ∀ o, (∃ a, f o = .ok a) ↔ admits t o = true) (ops : List Operand) :
    AcceptsAs (oneOperand c f k ops) [t] ops := by
  match ops with
  | [o] => cases h : f o <;> simp [AcceptsAs, oneOperand, Except.map, h, ← hf o]
  | [] | _ :: _ :: _ => simp [AcceptsAs, oneOperand]

/-- The decoder's operand checks are the types R70 lists for the code. -/
theorem decodeOperation_acceptsAs {code : Byte} {ts : List OperandType} (h : signature code = some ts)
    (ops : List Operand) : AcceptsAs (decodeOperation code ops) ts ops := by
  unfold signature at h
  split at h <;> cases h <;> rename_i e <;> simp only [decodeOperation, e]
  -- the operations without operands
  case h_1 | h_2 | h_3 | h_4 | h_5 | h_6 | h_7 => exact noOperands_acceptsAs _ _ ops
  -- CRC.NIB
  case h_8 => exact oneOperand_acceptsAs _ (asNibble_accepts_iff code) ops
  -- CRC.BYTE
  case h_9 => exact oneOperand_acceptsAs _ (asByte_accepts_iff code) ops
  -- CRC.RUN
  case h_10 => exact oneOperand_acceptsAs _ (asBytes_accepts_iff code) ops
  -- SES.GET
  case h_18 => exact oneOperand_acceptsAs _ (asNat_accepts_iff code) ops
  -- the setters
  case h_19 | h_20 | h_21 => exact oneOperand_acceptsAs _ (asInt_accepts_iff code) ops
  -- CRC.VFY
  case h_11 =>
    match ops with
    | [m, t] =>
      exact .cons (asBytes_accepts_iff _ m) fun _ => .cons (asBytes_accepts_iff _ t) fun _ => .nil _
    | [] | [_] | _ :: _ :: _ :: _ => simp [AcceptsAs]
  -- REQ.READ
  case h_12 =>
    match ops with
    | [d, x, r] =>
      exact .cons (asByte_accepts_iff _ d) fun _ => .cons (asByte_accepts_iff _ x) fun _ =>
        .cons (asNat_accepts_iff _ r) fun _ => .nil _
    | [] | [_] | [_, _] | _ :: _ :: _ :: _ :: _ => simp [AcceptsAs]
  -- REQ.WRITE
  case h_13 =>
    match ops with
    | [d, x, r, pl] =>
      exact .cons (asByte_accepts_iff _ d) fun _ => .cons (asByte_accepts_iff _ x) fun _ =>
        .cons (asNat_accepts_iff _ r) fun _ => .cons (asBytes_accepts_iff _ pl) fun _ => .nil _
    | [] | [_] | [_, _] | [_, _, _] | _ :: _ :: _ :: _ :: _ :: _ => simp [AcceptsAs]
  -- RPY.VAL
  case h_14 =>
    match ops with
    | [d, x, f, raw] =>
      exact .cons (asByte_accepts_iff _ d) fun _ => .cons (asByte_accepts_iff _ x) fun _ =>
        .cons (asFunc_accepts_iff _ f) fun _ => .cons (asBytes_accepts_iff _ raw) fun _ => .nil _
    | [] | [_] | [_, _] | [_, _, _] | _ :: _ :: _ :: _ :: _ :: _ => simp [AcceptsAs]
  -- FLD.GET
  case h_15 =>
    match ops with
    | [raw, i, o] =>
      exact .cons (asBytes_accepts_iff _ raw) fun _ => .cons (asNat_accepts_iff _ i) fun _ =>
        .cons (asInt_accepts_iff _ o) fun _ => .nil _
    | [] | [_] | [_, _] | _ :: _ :: _ :: _ :: _ => simp [AcceptsAs]
  -- FLD.DEC
  case h_16 =>
    match ops with
    | [raw, l] =>
      exact .cons (asBytes_accepts_iff _ raw) fun _ => .cons (asLayout_accepts_iff _ l) fun _ => .nil _
    | [] | [_] | _ :: _ :: _ :: _ => simp [AcceptsAs]
  -- SES.WRREG
  case h_17 =>
    match ops with
    | [r, v] =>
      exact .cons (asNat_accepts_iff _ r) fun _ => .cons (asNat_accepts_iff _ v) fun _ => .nil _
    | [] | [_] | _ :: _ :: _ :: _ => simp [AcceptsAs]

/-- The operation codes of R70. -/
def operationCodes : List Byte :=
  [0x00, 0x01, 0x02, 0x03, 0x04, 0x05, 0x10, 0x11, 0x20, 0x30, 0x31, 0x40, 0x41, 0x42, 0x43, 0x44, 0x45, 0x46, 0x48,
    0x49, 0x4A]

theorem decodeOperation_of_reserved {code : Byte} (h : code ∉ operationCodes) (ops : List Operand) :
    decodeOperation code ops = .error (.reservedCode code) := by
  have hn : code.toNat ∉ operationCodes.map BitVec.toNat :=
    fun hm => h ((List.mem_map_of_injective BitVec.toNat_injective).1 hm)
  unfold decodeOperation
  split
  case h_22 => rfl
  all_goals
    rename_i e
    rw [e] at hn
    exact absurd (by decide) hn

theorem issue_of_decode_error {code : Byte} {ops : List Operand} {r : Reject} (h : decodeOperation code ops = .error r)
    (s : State) : issue code ops s = .refused (.command r) := State.run_instr_of_decode_error h

/-- Settles O52: a code has a signature, and then `decodeOperation_acceptsAs` decides, or is reserved. -/
theorem reservedCodesAreRefused : Obligations.ReservedCodesAreRefused := by
  refine ⟨fun s code ops h => issue_of_decode_error (decodeOperation_of_reserved h ops) s,
    fun s code ts ops hc => ?operands, fun s z h => ?nibble, fun s z h => ?byte⟩
  case operands =>
    have hacc := decodeOperation_acceptsAs hc ops
    refine ⟨fun hn => ?refused, fun hy => ?accepted⟩
    case refused =>
      cases hd : decodeOperation code ops with
      | error r => exact ⟨r, issue_of_decode_error hd s⟩
      | ok i => exact absurd (hacc.1 ⟨i, hd⟩) hn
    case accepted =>
      obtain ⟨i, hi⟩ := hacc.2 hy
      exact ⟨i, hi, State.run_instr_of_decode_ok hi⟩
  case nibble =>
    have hz : asNibble 0x01 (.num z) = .error (.operandRange 0x01 z) := if_neg (by omega)
    have hd : decodeOperation 0x01 [.num z] = .error (.operandRange 0x01 z) := congrArg (Except.map Instr.crcNib) hz
    exact issue_of_decode_error hd s
  case byte =>
    have hz : asByte 0x02 (.num z) = .error (.operandRange 0x02 z) := by simp only [asByte, byteOf_outside h]
    have hd : decodeOperation 0x02 [.num z] = .error (.operandRange 0x02 z) := congrArg (Except.map Instr.crcByte) hz
    exact issue_of_decode_error hd s

end Sys2Proof.Machine
end

section
/-! PROOFS. A CRC driven by hand (`spec/30_encoding.md` R73, `spec/40_crc.md` R85), the frame kinds and the sessions whose
address is no byte (`spec/41_frame_build.md` R106), and sample words of the opcode table (R60, R70). -/

namespace Sys2Proof.Machine

open Sys2Proof.Claims

variable {s : State}

/-! ### A CRC by hand -/

/-- CRC.BYTE of each byte of a message folds the message into the accumulator (R83, R85). -/
theorem execAll_crcBytes (m : List Byte) (a : Accumulator) (rest : List Instr) :
    execAll (m.map Instr.crcByte ++ rest) ((s.setAcc (some a)).answer .done) =
      execAll rest ((s.setAcc (some (crcFrom s.params a m))).answer .done) := by
  induction m generalizing a with
  | nil => rfl
  | cons b bs ih => exact ih (crcByte s.params b a)

/-- Settles O7: both sides fold the message from the seed. -/
theorem computeByHandAgreesWithRun : Obligations.ComputeByHandAgreesWithRun := by
  intro s m
  exact ⟨_, _, execAll_crcBytes m crcSeed [.crcRd], rfl, rfl, rfl⟩

/-! ### An address that is no byte (log entry 4) -/

theorem State.writeRegister_outside {v : Nat} (r : Nat) (h : s.session.busAddr < 0 ∨ 255 < s.session.busAddr)
    (hv : v ≤ 255) : s.writeRegister r v = .refused (.command (.operandRange 0x11 s.session.busAddr)) := by
  rw [State.writeRegister, if_neg (by omega), State.withThermostat_outside _ _ h]

theorem State.setRegister_outside {w : Setter} {g : Range} {t : Int} (r : Nat)
    (h : s.session.busAddr < 0 ∨ 255 < s.session.busAddr) (hmin : g.min ≤ t) (hmax : t ≤ g.max) (ht : t ≤ 255) :
    s.setRegister w g r t = .refused (.command (.operandRange 0x11 s.session.busAddr)) := by
  rw [State.setRegister, if_neg (by omega), State.writeRegister_outside r h (by omega)]

/-- Settles O55: each of these operations reaches the operand check of its unit operation. -/
theorem addressOutsideByteIsRefused : Obligations.AddressOutsideByteIsRefused := by
  intro s h
  refine ⟨?refresh, fun r v hv => ?wrreg, fun t ht => ⟨?target, ?frost, ?floormax⟩, ?read, ?writeack⟩
  case refresh => exact State.withThermostat_outside _ _ h
  case wrreg => exact State.writeRegister_outside r h hv
  case target | frost | floormax => exact fun hmin hmax => State.setRegister_outside _ h hmin hmax ht
  case read | writeack => intros; exact State.withThermostat_outside _ _ h

/-! ### The frame kinds as inputs (log entry 8) -/

/-- The read builder accepts the start register of any frame (R104). -/
theorem buildRead_half (p : Params) (d x : Byte) (r : Half) :
    buildRead p d x r.toNat = .ok (readFrame p d x r) := by
  obtain ⟨-, h⟩ | ⟨h, -⟩ := buildRead_cases p d x r.toNat
  · simpa using h
  · omega

/-- So does the write builder, with a payload that fits (R104, R105). -/
theorem buildWrite_half (p : Params) (d x : Byte) (r : Half) {pl : List Byte} (hl : pl.length ≤ 245) :
    buildWrite p d x r.toNat pl = .ok (writeFrame p d x r pl) := by
  obtain ⟨-, -, h⟩ | ⟨h, -⟩ | ⟨-, h, -⟩ := buildWrite_cases p d x r.toNat pl
  · simpa using h
  · omega
  · omega

theorem exec_reqframeRead (s : State) (d x : Byte) (r : Half) :
    exec (.reqframeRead d x r) s = .next (s.deliver (.ok (readFrame s.params d x r))) := by
  rw [exec, execReqframeRead, buildRead_half]

theorem exec_reqframeWrite (s : State) (d x : Byte) (r : Half) {pl : List Byte} (hl : pl.length ≤ 245) :
    exec (.reqframeWrite d x r pl) s = .next (s.deliver (.ok (writeFrame s.params d x r pl))) := by
  rw [exec, execReqframeWrite, buildWrite_half _ _ _ _ hl]

/-- Settles O35: the fields of a request frame are operands that its builder accepts. -/
theorem requestFrameKindsAreTheirBuild : Obligations.RequestFrameKindsAreTheirBuild := by
  refine ⟨fun s d x r => ?read, fun s d x r pl hl => ?write⟩
  case read => exact ⟨none, readFrame s.params d x r, rfl, exec_reqframeRead s d x r, rfl⟩
  case write =>
    exact ⟨none, writeFrame s.params d x r pl, rfl, exec_reqframeWrite s d x r hl, by rw [writeFrame_length]; rfl⟩

/-- Settles O36: the session's address is the operand that RPY.VAL is given. -/
theorem replyFrameKindsAreValidated : Obligations.ReplyFrameKindsAreValidated := by
  refine ⟨fun s th d ll lh x pl cl ch h => ?read, fun s th d x cl ch h => ?writeack⟩
  case read => exact ⟨_, State.withThermostat_byte _ _ h, rfl⟩
  case writeack => exact ⟨_, State.withThermostat_byte _ _ h, rfl⟩

/-! ### Words -/

/-- Settles O53: each word is the encoded form of its instruction. -/
theorem sampleWordsDecode : Obligations.SampleWordsDecode := by
  have word {i : Instr} (h : i.wf = true) : (decode defaultParams (encode defaultParams i)).toOption = some i :=
    congrArg Except.toOption (decodeOfEncodeIsIdentity defaultParams i h)
  have hf : readFrame defaultParams 0x01 0x81 0 = [0x01, 0x0A, 0x81, 0x00, 0x00, 0x00, 0xFF, 0xFF, 0x2C, 0x09] := by
    decide
  exact ⟨word (i := .crcInit) rfl, word (i := .crcRd) rfl, decodeOfEncodeIsIdentity _ (.reqRead 1 0x81 18) rfl,
    decodeOperation_rpyVal 0x81 1 .write [], decodeOfEncodeIsIdentity _ (.fldGet [] 2 (-3)) rfl,
    word (i := .sesRefresh) rfl, decodeReply_writeAckBytes 0x81 0x01 0xB0 0xEB,
    hf ▸ decodeRequest_readFrame defaultParams 0x01 0x81 0⟩

end Sys2Proof.Machine
end

section
/-! PROOFS. The checksum fold (`spec/40_crc.md` R82, R85, R88, R89): its registers seen as one 16-bit register, which a
nibble step shifts and adds a table word to. With the default tables a nibble step is four steps of the bitwise CRC, and it
leaves the index it read the tables at in the bottom nibble, so two registers stay apart, and two bytes step apart. -/

namespace Sys2Proof

open Claims

/-! ### The 16-bit register -/

/-- The registers as `R = (crc_high << 8) | crc_low` (R82). -/
def Accumulator.register (a : Accumulator) : Half := le16 a.low a.high

/-- The word `LOOKUP_HIGH[t]:LOOKUP_LOW[t]` that one step adds (R82). -/
def Params.tableWord (p : Params) (t : Nibble) : Half := le16 (p.romLow t) (p.romHigh t)

/-- `R >> 12`, the nibble that a step shifts out. -/
def topNibble (r : Half) : Nibble := (r >>> 12).setWidth 4

theorem Accumulator.register_injective : Function.Injective Accumulator.register := by
  rintro ⟨l, h⟩ ⟨l', h'⟩ e
  have hl : l = l' := by simpa [Accumulator.register] using congrArg lo8 e
  have hh : h = h' := by simpa [Accumulator.register] using congrArg hi8 e
  rw [hl, hh]

theorem topNibble_register (a : Accumulator) : topNibble a.register = highNibble a.high := by
  have := a.low.isLt
  have := a.high.isLt
  apply BitVec.eq_of_toNat_eq
  simp [topNibble, Accumulator.register, Nat.shiftRight_eq_div_pow]
  omega

/-- The join is the concatenation of its bytes (R8). -/
theorem le16_eq_append (l h : Byte) : le16 l h = h ++ l := by
  apply BitVec.eq_of_toNat_eq
  rw [le16_toNat, BitVec.toNat_append, ← Nat.shiftLeft_add_eq_or_of_lt l.isLt, Nat.shiftLeft_eq]
  omega

theorem le16_xor (l l' h h' : Byte) : le16 (l ^^^ l') (h ^^^ h') = le16 l h ^^^ le16 l' h' := by
  simp only [le16_eq_append]
  exact BitVec.xor_append.symm

/-- The high nibble of `crc_low` moves into `crc_high` when the two shift as one. -/
theorem le16_shiftLeft_four (l h : Byte) : le16 (l <<< 4) ((h <<< 4) ||| (l >>> 4)) = le16 l h <<< 4 := by
  have hl := l.isLt
  have hhigh : ((h <<< 4) ||| (l >>> 4)).toNat = h.toNat % 16 * 16 + l.toNat / 16 := by
    have hh : (h <<< 4).toNat = (h.toNat % 16) <<< 4 := by simp [Nat.shiftLeft_eq]; omega
    rw [BitVec.toNat_or, hh, BitVec.toNat_ushiftRight, Nat.shiftRight_eq_div_pow,
      ← Nat.shiftLeft_add_eq_or_of_lt (by omega), Nat.shiftLeft_eq]
  apply BitVec.eq_of_toNat_eq
  simp only [le16_toNat, hhigh, BitVec.toNat_shiftLeft, Nat.shiftLeft_eq]
  omega

/-- The step on one 16-bit register (R82). -/
theorem register_crcNibble (p : Params) (v : Nibble) (a : Accumulator) :
    (crcNibble p v a).register = (a.register <<< 4) ^^^ p.tableWord (topNibble a.register ^^^ v) := by
  rw [topNibble_register, Accumulator.register, crcNibble, le16_xor, le16_shiftLeft_four]
  rfl

/-- Settles O3: the shifts of the two bytes are one shift, and the table bytes are added byte by byte. -/
theorem nibbleStepOnOneRegister : Obligations.NibbleStepOnOneRegister :=
  fun p v a => register_crcNibble p v a

/-! ### The fold over nibbles -/

/-- The fold over bytes is the fold over their nibbles (R83, R85). -/
theorem crcFrom_eq_foldl_nibbles (p : Params) (a : Accumulator) (m : List Byte) :
    crcFrom p a m = (nibbles m).foldl (fun a v => crcNibble p v a) a := by
  induction m generalizing a with
  | nil => rfl
  | cons b bs ih => exact ih (crcByte p b a)

/-! ### The bitwise CRC (R88) -/

/-- The bits of a nibble, most significant first. -/
def nibbleBits (v : Nibble) : List Bool := [v.getMsbD 0, v.getMsbD 1, v.getMsbD 2, v.getMsbD 3]

theorem byteBits_eq_nibbleBits (b : Byte) : byteBits b = nibbleBits (highNibble b) ++ nibbleBits (lowNibble b) := by
  simp [byteBits, nibbleBits, List.range_succ, highNibble, lowNibble, BitVec.getMsbD]

/-- The bit step is linear in the register and the bit together. -/
theorem bitStep_xor (r x : Half) (b c : Bool) : bitStep (r ^^^ x) (b ^^ c) = bitStep r b ^^^ bitStep x c := by
  have hbit : ((r ^^^ x).msb ^^ (b ^^ c)) = ((r.msb ^^ b) ^^ (x.msb ^^ c)) := by
    simp only [BitVec.msb_xor, Bool.xor_assoc, Bool.xor_left_comm]
  rw [bitStep, bitStep, bitStep, hbit, BitVec.shiftLeft_xor_distrib]
  cases r.msb ^^ b with
  | false => cases x.msb ^^ c <;> simp [BitVec.xor_assoc]
  | true => cases x.msb ^^ c <;> simp [BitVec.xor_assoc, BitVec.xor_comm (x <<< 1)]

theorem foldl_bitStep_xor (r x : Half) (v w : Nibble) :
    (nibbleBits (v ^^^ w)).foldl bitStep (r ^^^ x) =
      (nibbleBits v).foldl bitStep r ^^^ (nibbleBits w).foldl bitStep x := by
  simp only [nibbleBits, BitVec.getMsbD_xor, List.foldl_cons, List.foldl_nil, bitStep_xor]

/-- A bit equal to the one shifted out cancels it. -/
theorem bitStep_msb (r : Half) : bitStep r r.msb = r <<< 1 := by simp [bitStep]

/-- The bits of the top nibble are the four that the steps shift out. -/
theorem nibbleBits_topNibble (r : Half) :
    nibbleBits (topNibble r) = [r.msb, (r <<< 1).msb, (r <<< 1 <<< 1).msb, (r <<< 1 <<< 1 <<< 1).msb] := by
  simp [nibbleBits, topNibble, BitVec.msb_eq_getLsbD_last, BitVec.getMsbD]

/-- Fed its own top nibble, the register only shifts. -/
theorem foldl_bitStep_topNibble (r : Half) : (nibbleBits (topNibble r)).foldl bitStep r = r <<< 4 := by
  simp only [nibbleBits_topNibble, List.foldl_cons, List.foldl_nil, bitStep_msb, ← BitVec.shiftLeft_add]

/-- The default tables hold the bitwise CRC of each nibble from the zero register (R88). -/
theorem foldl_bitStep_zero_default :
    ∀ t : Nibble, (nibbleBits t).foldl bitStep 0#16 = defaultParams.tableWord t := by decide

/-- A nibble step with the default tables is four bit steps: the nibble is the top nibble, which only shifts, and the
difference `t` from it, which adds the table word. -/
theorem register_crcNibble_default (v : Nibble) (a : Accumulator) :
    (crcNibble defaultParams v a).register = (nibbleBits v).foldl bitStep a.register := by
  have hv : v = topNibble a.register ^^^ (topNibble a.register ^^^ v) := by rw [← BitVec.xor_assoc]; simp
  calc (crcNibble defaultParams v a).register
    _ = (a.register <<< 4) ^^^ defaultParams.tableWord (topNibble a.register ^^^ v) := register_crcNibble _ v a
    _ = (nibbleBits (topNibble a.register ^^^ (topNibble a.register ^^^ v))).foldl bitStep (a.register ^^^ 0#16) := by
      rw [foldl_bitStep_xor, foldl_bitStep_topNibble, foldl_bitStep_zero_default]
    _ = (nibbleBits v).foldl bitStep a.register := by rw [← hv, BitVec.xor_zero]

theorem register_crcFrom_default (a : Accumulator) (m : List Byte) :
    (crcFrom defaultParams a m).register = (m.flatMap byteBits).foldl bitStep a.register := by
  induction m generalizing a with
  | nil => rfl
  | cons b bs ih =>
    rw [crcFrom_cons, ih, crcByte, register_crcNibble_default, register_crcNibble_default, List.flatMap_cons,
      List.foldl_append, byteBits_eq_nibbleBits, List.foldl_append]

/-- Settles O11: the seed is the initial value, and every byte is eight bit steps. -/
theorem defaultTablesGiveBitwiseCrc : Obligations.DefaultTablesGiveBitwiseCrc :=
  fun m => register_crcFrom_default crcSeed m

/-! ### A changed byte (R89) -/

theorem setWidth_tableWord_default : ∀ t : Nibble, (defaultParams.tableWord t).setWidth 4 = t := by decide

/-- With the default tables the index a step reads the tables at is the bottom nibble of the register after it. -/
theorem setWidth_register_crcNibble_default (v : Nibble) (a : Accumulator) :
    (crcNibble defaultParams v a).register.setWidth 4 = topNibble a.register ^^^ v := by
  have hshift : (a.register <<< 4).setWidth 4 = 0#4 := by ext i hi; simp
  rw [register_crcNibble, BitVec.setWidth_xor, hshift, setWidth_tableWord_default, BitVec.zero_xor]

/-- What one step with the default tables keeps of the register and the nibble. -/
theorem crcNibble_default_eq {v w : Nibble} {a c : Accumulator}
    (h : crcNibble defaultParams v a = crcNibble defaultParams w c) :
    topNibble a.register ^^^ v = topNibble c.register ^^^ w ∧ a.register <<< 4 = c.register <<< 4 := by
  have hindex : topNibble a.register ^^^ v = topNibble c.register ^^^ w := by
    rw [← setWidth_register_crcNibble_default, h, setWidth_register_crcNibble_default]
  refine ⟨hindex, ?_⟩
  have hr := congrArg Accumulator.register h
  rwa [register_crcNibble, register_crcNibble, hindex, BitVec.xor_left_inj] at hr

theorem eq_of_shiftLeft_four_eq {r x : Half} (h : r <<< 4 = x <<< 4) (ht : topNibble r = topNibble x) : r = x := by
  unfold topNibble at ht
  bv_omega

theorem setWidth_eq_of_shiftLeft_four_eq {r x : Half} (h : r <<< 4 = x <<< 4) : r.setWidth 4 = x.setWidth 4 := by
  bv_omega

theorem crcNibble_default_injective (v : Nibble) : Function.Injective (crcNibble defaultParams v) := by
  intro a c h
  obtain ⟨hindex, hshift⟩ := crcNibble_default_eq h
  rw [BitVec.xor_left_inj] at hindex
  exact Accumulator.register_injective (eq_of_shiftLeft_four_eq hshift hindex)

theorem crcByte_default_injective (b : Byte) : Function.Injective (crcByte defaultParams b) :=
  (crcNibble_default_injective (lowNibble b)).comp (crcNibble_default_injective (highNibble b))

theorem crcFrom_default_injective (m : List Byte) : Function.Injective fun a => crcFrom defaultParams a m := by
  induction m with
  | nil => exact Function.injective_id
  | cons b bs ih => exact ih.comp (crcByte_default_injective b)

theorem eq_of_nibbles_eq {b c : Byte} (hh : highNibble b = highNibble c) (hl : lowNibble b = lowNibble c) : b = c := by
  have hh := congrArg BitVec.toNat hh
  have hl := congrArg BitVec.toNat hl
  rw [highNibble_toNat, highNibble_toNat] at hh
  rw [lowNibble_toNat, lowNibble_toNat] at hl
  apply BitVec.eq_of_toNat_eq
  omega

/-- From one register two bytes with one outcome are the same: the second step keeps the bottom nibble of the register
before it, which gives the first nibble, and then its own index gives the second. -/
theorem crcByte_default_eq {b c : Byte} {a : Accumulator} (h : crcByte defaultParams b a = crcByte defaultParams c a) :
    b = c := by
  obtain ⟨hindex, hshift⟩ := crcNibble_default_eq h
  have hh : highNibble b = highNibble c := by
    have hbottom := setWidth_eq_of_shiftLeft_four_eq hshift
    rwa [setWidth_register_crcNibble_default, setWidth_register_crcNibble_default, BitVec.xor_right_inj] at hbottom
  rw [hh, BitVec.xor_right_inj] at hindex
  exact eq_of_nibbles_eq hh hindex

/-- Settles O12: the changed byte changes the registers, and the bytes after it keep them apart. -/
theorem oneChangedByteChangesCrc : Obligations.OneChangedByteChangesCrc := by
  intro before after b c hne h
  rw [crcRun, crcRun, crcFrom_append, crcFrom_append, crcFrom_cons, crcFrom_cons] at h
  exact hne (crcByte_default_eq (crcFrom_default_injective after h))

end Sys2Proof
end

section
/-! PROOFS. The operations of the Checksum Engine (`spec/40_crc.md` R81 to R87): each operation code decodes to its
instruction, and each instruction's result and frame. -/

namespace Sys2Proof.Machine

open Sys2Proof.Claims

/-- Issuing the code and operands an instruction is encoded as runs it (R70). -/
theorem issue_of_encode {s : State} {i : Instr} {code : Byte} {ops : List Operand} (hi : i.wf = true)
    (h : encode s.params i = .operation code ops) : issue code ops s = exec i s :=
  State.run_instr_of_decode_ok (h ▸ decodeOfEncodeIsIdentity s.params i hi)

/-- Settles O6: the fold over bytes is the fold over nibbles. -/
theorem crcRunFoldsFromSeed : Obligations.CrcRunFoldsFromSeed := by
  intro s m
  have hrun : crcRun s.params m = (nibbles m).foldl (fun a v => crcNibble s.params v a) ⟨0xFF, 0xFF⟩ :=
    crcFrom_eq_foldl_nibbles s.params crcSeed m
  refine ⟨issue_of_encode rfl rfl, ?_⟩
  rw [← hrun]
  rfl

/-- Settles O1: neither the seed nor the answer reads the state. -/
theorem crcInitSeedsAccumulator : Obligations.CrcInitSeedsAccumulator :=
  fun _ => ⟨issue_of_encode rfl rfl, rfl⟩

/-! ### The operations that drive the accumulator -/

variable {s : State}

theorem exec_crcNib_unwritten (v : Nibble) (h : s.acc = none) : exec (.crcNib v) s = .next (s.raise .unwritten) :=
  congrArg Host.Outcome.next (State.feed_unwritten _ h)

theorem exec_crcNib_written (v : Nibble) {a : Accumulator} (h : s.acc = some a) :
    exec (.crcNib v) s = .next ((s.setAcc (some (crcNibble s.params v a))).answer .done) :=
  congrArg Host.Outcome.next (State.feed_written _ h)

theorem exec_crcByte_unwritten (b : Byte) (h : s.acc = none) : exec (.crcByte b) s = .next (s.raise .unwritten) :=
  congrArg Host.Outcome.next (State.feed_unwritten _ h)

theorem exec_crcByte_written (b : Byte) {a : Accumulator} (h : s.acc = some a) :
    exec (.crcByte b) s = .next ((s.setAcc (some (crcByte s.params b a))).answer .done) :=
  congrArg Host.Outcome.next (State.feed_written _ h)

theorem exec_crcRd_unwritten (h : s.acc = none) : exec .crcRd s = .next (s.raise .unwritten) := by
  simp only [exec, execCrcRd, h]

theorem exec_crcRd_written {a : Accumulator} (h : s.acc = some a) :
    exec .crcRd s = .next (s.answer (.crc a.low a.high)) := by
  simp only [exec, execCrcRd, h]

/-- Settles O2: a written accumulator takes the nibble step, an unwritten one is the fault. -/
theorem crcNibThreeSteps : Obligations.CrcNibThreeSteps := by
  obtain ⟨-, -, hnibble, -⟩ := reservedCodesAreRefused
  refine ⟨fun s v => issue_of_encode rfl rfl, hnibble, fun s v h => exec_crcNib_unwritten v h,
    fun s v low high h => ?written⟩
  rw [exec_crcNib_written v h]
  rfl

theorem setWidth_and_fifteen (b : Byte) : (b &&& 0x0F).setWidth 4 = lowNibble b := by
  rw [BitVec.setWidth_and]
  exact BitVec.and_allOnes

/-- Settles O4: the state after the high nibble has a written accumulator, which the low nibble drives on. -/
theorem crcByteIsTwoNibbles : Obligations.CrcByteIsTwoNibbles := by
  refine ⟨fun s b => issue_of_encode rfl rfl, fun s b h => exec_crcByte_unwritten b h, fun s b h => ?twoNibbles⟩
  obtain ⟨a, ha⟩ := Option.ne_none_iff_exists'.1 h
  rw [setWidth_and_fifteen]
  exact ⟨_, _, exec_crcNib_written (highNibble b) ha, exec_crcNib_written (lowNibble b) rfl, exec_crcByte_written b ha⟩

/-- Settles O5: one case for each form of the accumulator. -/
theorem crcRdReadsPairLowFirst : Obligations.CrcRdReadsPairLowFirst :=
  ⟨fun _ => issue_of_encode rfl rfl, fun _ h => exec_crcRd_unwritten h, fun _ _ _ h => exec_crcRd_written h⟩

/-! ### Verification -/

theorem crcVerify_eq_decide (p : Params) (m tr : List Byte) :
    crcVerify p m tr = decide (tr = [(crcRun p m).low, (crcRun p m).high]) := by
  rw [Bool.eq_iff_iff, crcVerify_iff, decide_eq_true_iff, Accumulator.trailer]

/-- Settles O8: the comparison accepts exactly the computed pair. -/
theorem crcVfyRecomputesAndCompares : Obligations.CrcVfyRecomputesAndCompares := by
  intro s m tr
  refine ⟨issue_of_encode rfl rfl, ?_⟩
  rw [← crcVerify_eq_decide]
  rfl

/-- Settles O9: CRC.RUN leaves the parameters, so CRC.VFY computes the same pair. -/
theorem verifyAcceptsWhatRunComputed : Obligations.VerifyAcceptsWhatRunComputed := by
  intro s m
  have hv : crcVerify s.params m (crcRun s.params m).trailer = true := (crcVerify_iff _ _ _).2 rfl
  exact ⟨_, _, _, _, rfl, rfl, rfl, congrArg (fun b => some (Result.verdict b)) hv⟩

end Sys2Proof.Machine
end

section
/-! PROOFS. The request builder (`spec/41_frame_build.md` R100 to R109): each operation as its builder, the frame behind an
answered frame, the bytes and the shape of that frame, and the length a reader of replies takes it to declare; then the
operations that read no state (R100, R133, R154). -/

namespace Sys2Proof.Machine

open Sys2Proof.Claims

variable {s t : State} {d x : Byte} {r : Nat} {pl f : List Byte}

/-! ### The operations and the frames they answer -/

theorem exec_reqRead (s : State) (d x : Byte) (r : Nat) :
    exec (.reqRead d x r) s = .next (s.deliver (buildRead s.params d x r)) := rfl

theorem exec_reqWrite (s : State) (d x : Byte) (r : Nat) (pl : List Byte) :
    exec (.reqWrite d x r pl) s = .next (s.deliver (buildWrite s.params d x r pl)) := rfl

/-- A frame is answered exactly when the builder gave it. -/
theorem State.deliver_result_frame_iff {b : Except BuildCause (List Byte)} :
    (s.deliver b).result = some (.frame f) ↔ b = .ok f := by
  cases b <;> simp

/-- A frame that REQ.READ answers is the Read frame of its operands, whose start register fits (R101, R104). -/
theorem frame_of_exec_reqRead (h : exec (.reqRead d x r) s = .next t) (hf : t.result = some (.frame f)) :
    r ≤ 0xFFFF ∧ f = readFrame s.params d x (BitVec.ofNat 16 r) := by
  cases h
  have hok : buildRead s.params d x r = .ok f := State.deliver_result_frame_iff.1 hf
  obtain ⟨hr, hb⟩ | ⟨-, hb⟩ := buildRead_cases s.params d x r
  · exact ⟨hr, Except.ok.inj (hok.symm.trans hb)⟩
  · cases hok.symm.trans hb

/-- A frame that REQ.WRITE answers is the Write frame of its operands, which fit (R103, R104, R105). -/
theorem frame_of_exec_reqWrite (h : exec (.reqWrite d x r pl) s = .next t) (hf : t.result = some (.frame f)) :
    r ≤ 0xFFFF ∧ pl.length ≤ 245 ∧ f = writeFrame s.params d x (BitVec.ofNat 16 r) pl := by
  cases h
  have hok : buildWrite s.params d x r pl = .ok f := State.deliver_result_frame_iff.1 hf
  obtain ⟨hr, hl, hb⟩ | ⟨-, hb⟩ | ⟨-, -, hb⟩ := buildWrite_cases s.params d x r pl
  · exact ⟨hr, hl, Except.ok.inj (hok.symm.trans hb)⟩
  · cases hok.symm.trans hb
  · cases hok.symm.trans hb

/-! ### What holds of every built frame (R108) -/

theorem half_ofNat_toNat {n : Nat} (h : n ≤ 0xFFFF) : (BitVec.ofNat 16 n).toNat = n :=
  Nat.mod_eq_of_lt (by omega)

theorem le16_lo8_hi8_ofNat_toNat {n : Nat} (h : n ≤ 0xFFFF) :
    (le16 (lo8 (BitVec.ofNat 16 n)) (hi8 (BitVec.ofNat 16 n))).toNat = n := by
  rw [le16_lo8_hi8, half_ofNat_toNat h]

theorem readFrame_byte_one (p : Params) (d x : Byte) (w : Half) :
    (readFrame p d x w)[1]?.map BitVec.toNat = some (readFrame p d x w).length := rfl

/-- The total length fits byte 1, because the payload has at most 245 bytes (R105). -/
theorem writeFrame_byte_one (p : Params) (d x : Byte) (w : Half) (h : pl.length ≤ 245) :
    (writeFrame p d x w pl)[1]?.map BitVec.toNat = some (writeFrame p d x w pl).length := by
  have hn : (BitVec.ofNat 8 (10 + pl.length)).toNat = 10 + pl.length := Nat.mod_eq_of_lt (by omega)
  rw [writeFrame_length]
  exact congrArg some hn

/-- Settles O16: the frame is its builder's, whose header bytes are read off, and whose trailer is the computed one. -/
theorem builtFramesKeepTheirShape : Obligations.BuiltFramesKeepTheirShape := by
  refine ⟨fun s t d x r f h hf => ?read, fun s t d x r pl f h hf => ?write⟩
  case read =>
    obtain ⟨hr, rfl⟩ := frame_of_exec_reqRead h hf
    exact ⟨readFrame_byte_one _ _ _ _, readFrame_length _ _ _ _, rfl, crcVerify_withTrailer _ _,
      ⟨_, _, rfl, rfl, le16_lo8_hi8_ofNat_toNat hr⟩, ⟨_, _, rfl, rfl, le16_lo8_hi8 _⟩⟩
  case write =>
    obtain ⟨hr, hl, rfl⟩ := frame_of_exec_reqWrite h hf
    have hlen := writeFrame_length s.params d x (BitVec.ofNat 16 r) pl
    have hcount : (writeFrame s.params d x (BitVec.ofNat 16 r) pl).length - 10 = pl.length := by omega
    refine ⟨writeFrame_byte_one _ _ _ _ hl, by omega, by omega, rfl, crcVerify_withTrailer _ _,
      ⟨_, _, rfl, rfl, le16_lo8_hi8_ofNat_toNat hr⟩, ⟨_, _, rfl, rfl, ?count⟩, ?payload⟩
    case count => rw [hcount, le16_lo8_hi8_ofNat_toNat (by omega)]
    case payload => exact congrArg (List.drop 8) (bodyOf_withTrailer _ _)

/-! ### A request read as a reply (R109) -/

/-- A reply's declared length has byte 2 as its high byte, which is a request's source: a frame whose byte 1 alone is its
length then declares at least 256 bytes more. -/
theorem violatesV9_of_byte_one_eq_length (h1 : f[1]?.map BitVec.toNat = some f.length) (h2 : f[2]? = some x)
    (hx : x ≠ 0) : violatesV9 f = true := by
  obtain ⟨n, hn, hlen⟩ := Option.map_eq_some_iff.1 h1
  have hpos : x.toNat ≠ 0 := fun h => hx (BitVec.eq_of_toNat_eq h)
  have hdeclared : memRead16 f 1 = some (le16 n x) := by rw [memRead16_one, hn, h2]
  rw [violatesV9, hdeclared]
  exact bne_iff_ne.2 (by rw [le16_toNat]; omega)

theorem validate_invalid_of_violatesV9 (p : Params) (de se : Byte) (fe : Func) (h : violatesV9 f = true) :
    (validate p de se fe f).vstat.getLsbD 8 = true ∧ (validate p de se fe f).valid = false := by
  refine ⟨(vstatOf_getLsbD p de se fe f 8).trans h, Bool.eq_false_iff.2 fun hv => ?_⟩
  obtain ⟨-, -, -, -, -, -, -, -, h9⟩ := (validate_valid_iff p de se fe f).1 hv
  exact Bool.false_ne_true (h9.symm.trans h)

/-- Settles O17: byte 1 of either frame is its length, and byte 2 its source. -/
theorem requestIsNeverAValidReply : Obligations.RequestIsNeverAValidReply := by
  intro s t i d x r pl f hi h hf hx p de se fe
  refine validate_invalid_of_violatesV9 p de se fe ?_
  obtain rfl | rfl := hi
  · obtain ⟨-, rfl⟩ := frame_of_exec_reqRead h hf
    exact violatesV9_of_byte_one_eq_length (readFrame_byte_one _ _ _ _) rfl hx
  · obtain ⟨-, hl, rfl⟩ := frame_of_exec_reqWrite h hf
    exact violatesV9_of_byte_one_eq_length (writeFrame_byte_one _ _ _ _ hl) rfl hx

/-! ### The bytes of a built frame -/

theorem lo8_eq_ofNat (w : Half) : lo8 w = BitVec.ofNat 8 (w.toNat % 256) :=
  BitVec.eq_of_toNat_eq (by rw [lo8_toNat, BitVec.toNat_ofNat]; omega)

theorem hi8_eq_ofNat (w : Half) : hi8 w = BitVec.ofNat 8 (w.toNat / 256) :=
  BitVec.eq_of_toNat_eq (by rw [hi8_toNat, BitVec.toNat_ofNat]; omega)

/-- A request's header as byte arithmetic, when its start register fits (R51). -/
theorem requestHeader_ofNat (d n x : Byte) (fn : Func) (l : Half) (h : r ≤ 0xFFFF) :
    requestHeader d n x fn (BitVec.ofNat 16 r) l =
      [d, n, x, fn.code, BitVec.ofNat 8 (r % 256), BitVec.ofNat 8 (r / 256), BitVec.ofNat 8 (l.toNat % 256),
        BitVec.ofNat 8 (l.toNat / 256)] := by
  simp only [requestHeader, lo8_eq_ofNat, hi8_eq_ofNat, half_ofNat_toNat h]

/-- Settles O13: the two cases of the read builder. -/
theorem reqReadBuildsTenBytes : Obligations.ReqReadBuildsTenBytes := by
  refine ⟨fun s d x r => issue_of_encode rfl rfl, fun s d x r h => ?tooWide, fun s d x r h => ?built⟩
  case tooWide =>
    rw [exec_reqRead, buildRead, if_pos h]
    rfl
  case built =>
    refine ⟨none, _, requestHeader_ofNat d 10 x .read s.params.lenAll h, ?_⟩
    rw [exec_reqRead, buildRead, if_neg (by omega)]
    rfl

/-- Settles O14: the three cases of the write builder; a payload of at most 245 bytes has its length in one byte. -/
theorem reqWriteBuildsFrame : Obligations.ReqWriteBuildsFrame := by
  refine ⟨fun s d x r pl => issue_of_encode rfl rfl, fun s d x r pl h => ?tooWide, fun s d x r pl hr hl => ?tooLong,
    fun s d x r pl hr hl => ?built⟩
  case tooWide =>
    rw [exec_reqWrite, buildWrite, if_pos h]
    rfl
  case tooLong =>
    rw [exec_reqWrite, buildWrite, maxPayload, if_neg (by omega), if_pos hl]
    rfl
  case built =>
    have hheader := requestHeader_ofNat d (BitVec.ofNat 8 (10 + pl.length)) x .write (BitVec.ofNat 16 pl.length) hr
    rw [half_ofNat_toNat (by omega), Nat.mod_eq_of_lt (show pl.length < 256 by omega),
      Nat.div_eq_of_lt (show pl.length < 256 by omega)] at hheader
    refine ⟨none, _, congrArg (· ++ pl) hheader, ?_⟩
    rw [exec_reqWrite, buildWrite, maxPayload, if_neg (by omega), if_neg (by omega)]
    rfl

/-- Settles O15: REQ.READ and REQ.WRITE are the build contract with their own payload, and a Read's payload is the first
thing it tests (log entry 11). -/
theorem buildContractDispatches : Obligations.BuildContractDispatches := by
  refine ⟨fun s d x r => ⟨rfl, rfl⟩, fun s d x r pl => rfl, fun s d x r => rfl, fun s d x r pl _ hpl => ?payload⟩
  have hb : buildRequest s.params d x .read r (some pl) = .error .payloadOnRead := if_neg hpl
  exact congrArg (fun b => Host.Outcome.next (s.deliver b)) hb

/-! ### Operations that read no state -/

/-- Settles O47: the parameters are all that the five operations take from the state. -/
theorem codecAndDecoderReadNoState : Obligations.CodecAndDecoderReadNoState := by
  rintro i s s' hp (⟨d, x, r, rfl⟩ | ⟨d, x, r, pl, rfl⟩ | ⟨d, x, f, raw, rfl⟩ | ⟨raw, k, o, rfl⟩ | ⟨raw, l, rfl⟩)
  · rw [exec_reqRead, exec_reqRead, hp]
    exact s.deliver_result_eq s' _
  · rw [exec_reqWrite, exec_reqWrite, hp]
    exact s.deliver_result_eq s' _
  · simp only [exec, execRpyVal, State.validateReply_eq, hp]
    rfl
  · exact resultOf_fldGet_eq s s' raw k o
  · exact resultOf_fldDec_eq s s' raw l

end Sys2Proof.Machine
end

section
/-! PROOFS. The reply validator (`spec/42_frame_validate.md` R120 to R134): what each of the nine rules asks of a frame's
bytes, and what follows for a frame that keeps them all. -/

namespace Sys2Proof.Machine

open Sys2Proof.Claims

variable {p : Params} {d x : Byte} {f : Func} {raw : List Byte}

/-! ### What each rule asks (R123 to R131) -/

/-- V1 (R123). -/
theorem violatesV1_eq_false_iff : violatesV1 p raw = false ↔ ∃ m, raw = withTrailer p m := by
  rw [violatesV1, Bool.or_eq_false_iff, Bool.not_eq_false', decide_eq_false_iff_not]
  constructor
  · rintro ⟨-, hv⟩
    exact ⟨bodyOf raw, (withTrailer_bodyOf hv).symm⟩
  · rintro ⟨m, rfl⟩
    exact ⟨by rw [withTrailer_length]; omega, crcVerify_withTrailer p m⟩

/-- V2 (R124). -/
theorem violatesV2_eq_false_iff : violatesV2 raw = false ↔ raw[0]? = some 129 ∨ raw[0]? = some 160 := by
  rw [violatesV2, memRead_zero]
  cases raw[0]? with
  | none => simp
  | some y => simp [masterAddr, altMasterAddr, imp_iff_or_not, or_comm]

/-- V3 (R125). -/
theorem violatesV3_eq_false_iff : violatesV3 d raw = false ↔ raw[0]? = some d := by
  rw [violatesV3, memRead_zero]
  cases raw[0]? <;> simp

/-- V4 (R126). -/
theorem violatesV4_eq_false_iff :
    violatesV4 raw = false ↔ ∃ y : Byte, raw[3]? = some y ∧ 1 ≤ y.toNat ∧ y.toNat ≤ 32 := by
  rw [violatesV4, memRead_three]
  cases raw[3]? with
  | none => simp
  | some y => simp [isThermostatAddr]

/-- V5 (R127). -/
theorem violatesV5_eq_false_iff : violatesV5 x raw = false ↔ raw[3]? = some x := by
  rw [violatesV5, memRead_three]
  cases raw[3]? <;> simp

/-- V6 (R128). -/
theorem violatesV6_eq_false_iff : violatesV6 raw = false ↔ raw[4]? = some 0 ∨ raw[4]? = some 1 := by
  rw [violatesV6, memRead_four]
  cases raw[4]? with
  | none => simp
  | some y => simp [imp_iff_or_not, or_comm]

/-- V7 (R129). -/
theorem violatesV7_eq_false_iff : violatesV7 f raw = false ↔ raw[4]? = some f.code := by
  rw [violatesV7, memRead_four]
  cases raw[4]? <;> simp

theorem le16_toNat_eq_seven_iff {lo hi : Byte} : (le16 lo hi).toNat = 7 ↔ lo = 7 ∧ hi = 0 := by
  rw [le16_toNat, ← BitVec.toNat_inj, ← BitVec.toNat_inj]
  simp only [BitVec.ofNat_eq_ofNat, BitVec.toNat_ofNat]
  omega

/-- V8 (R130): a frame with a function byte declares a length. -/
theorem violatesV8_eq_true_iff :
    violatesV8 raw = true ↔
      raw[4]? = none ∨ (raw[4]? = some 1 ∧ ¬ (raw[1]? = some 7 ∧ raw[2]? = some 0)) := by
  cases h4 : raw[4]? with
  | none => simp [violatesV8, h4]
  | some c =>
    obtain ⟨hlen, -⟩ := List.getElem?_eq_some_iff.1 h4
    have h1 : raw[1]? = some raw[1] := List.getElem?_eq_getElem (by omega)
    have h2 : raw[2]? = some raw[2] := List.getElem?_eq_getElem (by omega)
    simp only [violatesV8, memRead_four, memRead16_one, h4, h1, h2, Func.code_write, writeAckLen, Bool.and_eq_true,
      beq_iff_eq, bne_iff_ne, ne_eq, le16_toNat_eq_seven_iff, reduceCtorEq, Option.some.injEq, false_or]

/-- V9 (R131). -/
theorem violatesV9_eq_false_iff :
    violatesV9 raw = false ↔
      ∃ lo hi : Byte, raw[1]? = some lo ∧ raw[2]? = some hi ∧ lo.toNat + 256 * hi.toNat = raw.length := by
  rw [violatesV9, memRead16_one]
  cases raw[1]? <;> cases raw[2]? <;> simp

/-! ### The bits of VSTAT -/

theorem exec_rpyVal (s : State) (d x : Byte) (f : Func) (raw : List Byte) :
    exec (.rpyVal d x f raw) s =
      .next { s with acc := if 2 ≤ raw.length then none else s.acc,
                     result := some (.validation (validate s.params d x f raw)) } :=
  congrArg Host.Outcome.next (s.validateReply_eq d x f raw)

/-- From when a rule is kept to when it is violated. -/
theorem eq_true_iff_not_of_eq_false_iff {b : Bool} {P : Prop} (h : b = false ↔ P) : b = true ↔ ¬ P := by
  rw [← h, Bool.not_eq_false]

/-- Settles O19: bit by bit, what the rule asks of the frame. -/
theorem vstatBitsAreTheNineRules : Obligations.VstatBitsAreTheNineRules := by
  intro s d x f raw
  have hbit (k : Nat) := vstatOf_getLsbD s.params d x f raw k
  refine ⟨_, _, exec_rpyVal s d x f raw, ?_⟩
  simp only [validate_vstat, hbit]
  exact ⟨eq_true_iff_not_of_eq_false_iff violatesV1_eq_false_iff, eq_true_iff_not_of_eq_false_iff violatesV2_eq_false_iff,
    eq_true_iff_not_of_eq_false_iff violatesV3_eq_false_iff, eq_true_iff_not_of_eq_false_iff violatesV4_eq_false_iff,
    eq_true_iff_not_of_eq_false_iff violatesV5_eq_false_iff, eq_true_iff_not_of_eq_false_iff violatesV6_eq_false_iff,
    eq_true_iff_not_of_eq_false_iff violatesV7_eq_false_iff, violatesV8_eq_true_iff,
    eq_true_iff_not_of_eq_false_iff violatesV9_eq_false_iff⟩

/-! ### Valid frames (R134) -/

section
variable (h : (validate p d x f raw).valid = true)
include h

/-- V1 of a valid frame. -/
theorem exists_withTrailer_of_valid : ∃ m, raw = withTrailer p m := by
  obtain ⟨h1, -⟩ := (validate_valid_iff p d x f raw).1 h
  exact violatesV1_eq_false_iff.1 h1

/-- V3, V5 and V7 of a valid frame: the bytes it was expected to have. -/
theorem expected_bytes_of_valid : raw[0]? = some d ∧ raw[3]? = some x ∧ raw[4]? = some f.code := by
  obtain ⟨-, -, h3, -, h5, -, h7, -⟩ := (validate_valid_iff p d x f raw).1 h
  exact ⟨violatesV3_eq_false_iff.1 h3, violatesV5_eq_false_iff.1 h5, violatesV7_eq_false_iff.1 h7⟩

/-- R134 (a): V2 and V3. -/
theorem dest_of_valid : d = 129 ∨ d = 160 := by
  obtain ⟨-, h2, -⟩ := (validate_valid_iff p d x f raw).1 h
  obtain ⟨hd, -⟩ := expected_bytes_of_valid h
  simpa [hd] using violatesV2_eq_false_iff.1 h2

/-- R134 (b): V4 and V5. -/
theorem source_of_valid : 1 ≤ x.toNat ∧ x.toNat ≤ 32 := by
  obtain ⟨-, -, -, h4, -⟩ := (validate_valid_iff p d x f raw).1 h
  obtain ⟨-, hx, -⟩ := expected_bytes_of_valid h
  simpa [hx] using violatesV4_eq_false_iff.1 h4

/-- V9 of a valid frame. -/
theorem declared_length_of_valid :
    ∃ lo hi : Byte, raw[1]? = some lo ∧ raw[2]? = some hi ∧ lo.toNat + 256 * hi.toNat = raw.length := by
  obtain ⟨-, -, -, -, -, -, -, -, h9⟩ := (validate_valid_iff p d x f raw).1 h
  exact violatesV9_eq_false_iff.1 h9

/-- V8 of a valid frame whose function byte is Write's. -/
theorem declares_seven_of_valid_write (hf : f = .write) : raw[1]? = some 7 ∧ raw[2]? = some 0 := by
  obtain ⟨-, -, -, -, -, -, -, h8, -⟩ := (validate_valid_iff p d x f raw).1 h
  obtain ⟨-, -, hc⟩ := expected_bytes_of_valid h
  subst hf
  have hno := mt violatesV8_eq_true_iff.2 (Bool.eq_false_iff.1 h8)
  exact of_not_not fun hne => hno (.inr ⟨hc, hne⟩)

/-- R134 (f): V8 and V9. -/
theorem length_eq_seven_of_valid_write (hf : f = .write) : raw.length = 7 := by
  obtain ⟨lo, hi, h1, h2, hlen⟩ := declared_length_of_valid h
  obtain ⟨h1', h2'⟩ := declares_seven_of_valid_write h hf
  cases h1.symm.trans h1'
  cases h2.symm.trans h2'
  exact hlen.symm

/-- R134 (c). -/
theorem bytes_of_valid_write (hf : f = .write) : ∃ low high : Byte, raw = [d, 0x07, 0x00, x, 0x01, low, high] := by
  obtain ⟨h1, h2⟩ := declares_seven_of_valid_write h hf
  obtain ⟨h0, h3, h4⟩ := expected_bytes_of_valid h
  have hlen := length_eq_seven_of_valid_write h hf
  subst hf
  match raw, hlen with
  | [_, _, _, _, _, low, high], _ =>
    cases h0; cases h1; cases h2; cases h3; cases h4
    exact ⟨low, high, rfl⟩

end

/-- Settles O20: each item from the rules that its operand or byte meets. -/
theorem validReplyHasItsShape : Obligations.ValidReplyHasItsShape := by
  intro p d x f raw h
  obtain ⟨hlow, hhigh⟩ := source_of_valid h
  obtain ⟨-, -, hc⟩ := expected_bytes_of_valid h
  exact ⟨dest_of_valid h, hlow, hhigh, declared_length_of_valid h, bytes_of_valid_write h, by rintro rfl; exact hc⟩

/-! ### Short frames under the default tables (R134 (e)) -/

/-- The body of a 5-byte frame has no computed trailer that ends in Read's function byte. -/
theorem crcRun_default_five_high_ne_zero (hd : d = 129 ∨ d = 160) : (crcRun defaultParams [d, 5, 0]).high ≠ 0 := by
  obtain rfl | rfl := hd <;> decide

theorem crcRun_default_six_low_ne_zero_upto :
    ∀ n ≤ 32, (crcRun defaultParams [129, 6, 0, BitVec.ofNat 8 n]).low ≠ 0 ∧
      (crcRun defaultParams [160, 6, 0, BitVec.ofNat 8 n]).low ≠ 0 := by
  decide

/-- The body of a 6-byte frame has no computed trailer that starts with Read's function byte. -/
theorem crcRun_default_six_low_ne_zero (hd : d = 129 ∨ d = 160) (hx : x.toNat ≤ 32) :
    (crcRun defaultParams [d, 6, 0, x]).low ≠ 0 := by
  obtain ⟨hmaster, halt⟩ := crcRun_default_six_low_ne_zero_upto x.toNat hx
  rw [BitVec.ofNat_toNat, BitVec.setWidth_eq] at hmaster halt
  obtain rfl | rfl := hd
  exacts [hmaster, halt]

/-- V9 of a valid frame whose length fits in one byte. -/
theorem declared_bytes_of_short_valid (h : (validate p d x f raw).valid = true) (hlen : raw.length < 256) :
    raw[1]? = some (BitVec.ofNat 8 raw.length) ∧ raw[2]? = some 0 := by
  obtain ⟨lo, hi, h1, h2, hdecl⟩ := declared_length_of_valid h
  have hhi : hi = 0 := BitVec.eq_of_toNat_eq (show hi.toNat = 0 by omega)
  subst hhi
  have hlo : lo.toNat = raw.length := by simpa using hdecl
  exact ⟨by rw [h1, ← hlo, BitVec.ofNat_toNat, BitVec.setWidth_eq], h2⟩

/-- V1 of a valid frame given as body and trailer. -/
theorem crcRun_of_valid_append {m : List Byte} {l c : Byte} (h : (validate p d x f (m ++ [l, c])).valid = true) :
    (crcRun p m).low = l ∧ (crcRun p m).high = c := by
  obtain ⟨m', hm⟩ := exists_withTrailer_of_valid h
  obtain ⟨rfl, ht⟩ := List.append_inj' hm rfl
  cases ht
  exact ⟨rfl, rfl⟩

/-- Settles O21: a Write reply has 7 bytes; a Read reply has at least the 5 bytes up to its function byte, which falls
into the trailer when there are 5 or 6. -/
theorem noShortReplyIsValid : Obligations.NoShortReplyIsValid := by
  intro d x f raw hlen
  refine Bool.eq_false_iff.2 fun h => ?_
  cases f with
  | write => exact absurd (length_eq_seven_of_valid_write h rfl) (by omega)
  | read =>
    have hd := dest_of_valid h
    obtain ⟨-, hx⟩ := source_of_valid h
    obtain ⟨h0, h3, h4⟩ := expected_bytes_of_valid h
    obtain ⟨h1, h2⟩ := declared_bytes_of_short_valid h (by omega)
    obtain ⟨h5, -⟩ := List.getElem?_eq_some_iff.1 h4
    match raw, h5, hlen with
    | [_, b, _, _, _], _, _ =>
      cases h0; cases h2; cases h3; cases h4
      obtain rfl : b = 5 := Option.some.inj h1
      obtain ⟨-, hhigh⟩ := crcRun_of_valid_append (m := [d, 5, 0]) h
      exact crcRun_default_five_high_ne_zero hd hhigh
    | [_, b, _, _, _, _], _, _ =>
      cases h0; cases h2; cases h3; cases h4
      obtain rfl : b = 6 := Option.some.inj h1
      obtain ⟨hlow, -⟩ := crcRun_of_valid_append (m := [d, 6, 0, x]) h
      exact crcRun_default_six_low_ne_zero hd hx hlow

end Sys2Proof.Machine
end

section
/-! PROOFS. The Field Decoder (`spec/43_field_decode.md` R150 to R153): when a field's byte is there, what the table it
makes holds and where, and the getters after a refresh, which read that table (`spec/44_session.md` R173, R176). -/

namespace Sys2Proof.Machine

open Sys2Proof.Claims

variable {s t : State} {raw : List Byte} {i : Nat} {o : Int} {b : Byte} {l : Layout}

/-! ### The byte at a field's position (R151, D10) -/

theorem fieldByte_eq (raw : List Byte) (i : Nat) (o : Int) :
    fieldByte raw i o = if (i : Int) + o < 0 then none else raw[((i : Int) + o).toNat]? := rfl

theorem exists_fieldByte_iff :
    (∃ b, fieldByte raw i o = some b) ↔ 0 ≤ (i : Int) + o ∧ (i : Int) + o < raw.length :=
  Option.isSome_iff_exists.symm.trans (memRead_isSome raw _)

theorem fieldByte_eq_none_iff : fieldByte raw i o = none ↔ (i : Int) + o < 0 ∨ (raw.length : Int) ≤ i + o := by
  rw [← not_iff_not, ← Ne, Option.ne_none_iff_exists', exists_fieldByte_iff]
  omega

theorem fieldByte_eq_some_iff :
    fieldByte raw i o = some b ↔ 0 ≤ (i : Int) + o ∧ raw[((i : Int) + o).toNat]? = some b := by
  rw [fieldByte_eq]
  split
  case isTrue hneg => exact ⟨nofun, fun ⟨h0, _⟩ => absurd hneg (by omega)⟩
  case isFalse hpos => exact ⟨fun hb => ⟨by omega, hb⟩, fun ⟨_, hb⟩ => hb⟩

theorem map_fieldByte {α : Type} (f : Byte → α) (raw : List Byte) (i : Nat) (o : Int) :
    (fieldByte raw i o).map f = if (i : Int) + o < 0 then none else raw[((i : Int) + o).toNat]?.map f :=
  apply_ite (Option.map f) _ _ _

theorem isNone_fieldByte (raw : List Byte) (i : Nat) (o : Int) :
    (fieldByte raw i o).isNone = decide ((i : Int) + o < 0 ∨ (raw.length : Int) ≤ i + o) := by
  rw [Bool.eq_iff_iff, Option.isNone_iff_eq_none, fieldByte_eq_none_iff, decide_eq_true_iff]

/-! ### FLD.GET and FLD.DEC -/

theorem exec_fldGet_outside (s : State) (h : fieldByte raw i o = none) :
    exec (.fldGet raw i o) s = .next (s.raise (.decode i)) := by simp only [exec, execFldGet, h]

theorem exec_fldGet_inside (s : State) (h : fieldByte raw i o = some b) :
    exec (.fldGet raw i o) s = .next (s.answer (.byte b)) := by simp only [exec, execFldGet, h]

/-- Settles O22: the three clauses are the operation's code, an absent byte and a present one. -/
theorem fldGetReadsOneByte : Obligations.FldGetReadsOneByte := by
  refine ⟨fun s raw i o => issue_of_encode rfl rfl, fun s raw i o h => ?outside, fun s raw i q o b hq hb => ?inside⟩
  case outside => exact exec_fldGet_outside s (fieldByte_eq_none_iff.2 h)
  case inside =>
    refine exec_fldGet_inside s (fieldByte_eq_some_iff.2 ?_)
    rw [hq]
    exact ⟨Int.natCast_nonneg q, hb⟩

theorem exec_fldDec_wf (s : State) (raw : List Byte) (h : l.wf = true) :
    exec (.fldDec raw l) s =
      .next (s.answer (.table (decodeTable raw l.offset l.fields) (decodeFaults raw l.offset l.fields))) := if_pos h

theorem exec_fldDec_repeatedIndex (s : State) (raw : List Byte) (h : l.wf = false) :
    exec (.fldDec raw l) s = .refused (.command (.repeatedIndex l)) := if_neg (Bool.eq_false_iff.1 h)

theorem decodeOperation_fldDec_repeatedIndex (raw : List Byte) (h : l.wf = false) :
    decodeOperation 0x31 [.bytes raw, .layout l] = .error (.repeatedIndex l) :=
  have hl : asLayout 0x31 (.layout l) = .error (.repeatedIndex l) := if_neg (Bool.eq_false_iff.1 h)
  congrArg (fun x => x >>= fun l => pure (Instr.fldDec raw l)) hl

/-- The decoder refuses a layout with a repeated index with the CommandFault that FLD.DEC itself gives it (log entry 12), so
issuing FLD.DEC runs it whatever the layout. -/
theorem issue_fldDec (s : State) (raw : List Byte) (l : Layout) :
    issue 0x31 [.bytes raw, .layout l] s = exec (.fldDec raw l) s := by
  cases h : l.wf with
  | true => exact issue_of_encode h rfl
  | false =>
    rw [exec_fldDec_repeatedIndex s raw h]
    exact issue_of_decode_error (decodeOperation_fldDec_repeatedIndex raw h) s

/-- Settles O23: the walk over the layout is one filter for the table and one for the faults, by whether the field's byte is
there. -/
theorem fldDecSplitsTheLayout : Obligations.FldDecSplitsTheLayout := by
  refine ⟨issue_fldDec, fun s raw l h => exec_fldDec_repeatedIndex s raw ((Layout.wf_eq_false_iff l).2 h),
    fun s raw l h => ?split⟩
  rw [exec_fldDec_wf s raw ((Layout.wf_iff l).2 h), decodeTable_eq, decodeFaults_eq]
  simp only [map_fieldByte, isNone_fieldByte]
  rfl

/-! ### The entry of a field in the table -/

theorem mem_decodeTable_iff {ds : List FieldDecl} {x : FieldEntry} :
    x ∈ decodeTable raw o ds ↔ ∃ d ∈ ds, ∃ b, fieldByte raw d.index o = some b ∧ ⟨d.index, d.label, b⟩ = x := by
  simp only [decodeTable_eq, List.mem_filterMap, Option.map_eq_some_iff]

section

variable {ds : List FieldDecl} {d : FieldDecl} (hn : (ds.map (·.index)).Nodup)
include hn

/-- With distinct indices no other field of the layout makes an entry under this one's index (R150). -/
theorem mem_decodeTable_index_iff {x : FieldEntry} (hd : d ∈ ds) :
    x ∈ decodeTable raw o ds ∧ x.index = d.index ↔
      ∃ b, fieldByte raw d.index o = some b ∧ ⟨d.index, d.label, b⟩ = x := by
  rw [mem_decodeTable_iff]
  constructor
  · rintro ⟨⟨d', hd', b, hb, rfl⟩, hx⟩
    obtain rfl : d' = d := List.inj_on_of_nodup_map hn hd' hd hx
    exact ⟨b, hb, rfl⟩
  · rintro ⟨b, hb, rfl⟩
    exact ⟨⟨d, hd, b, hb, rfl⟩, rfl⟩

theorem decodeTable_wf (raw : List Byte) (o : Int) : FieldTable.wf (decodeTable raw o ds) = true := by
  have h := ((decodeTable_sublist raw o ds).map (·.index)).nodup hn
  rw [List.map_map] at h
  exact decide_eq_true h

/-- What `FT[index]` is in a table made from a layout that has the index (R153). -/
theorem lookup_decodeTable (raw : List Byte) (o : Int) (hd : d ∈ ds) :
    FieldTable.lookup (decodeTable raw o ds) d.index =
      (fieldByte raw d.index o).map fun b => ⟨d.index, d.label, b⟩ := by
  cases hb : fieldByte raw d.index o with
  | none =>
    refine FieldTable.lookup_eq_none.2 fun x hx hi => ?_
    obtain ⟨b, hb', -⟩ := (mem_decodeTable_index_iff hn hd).1 ⟨hx, hi⟩
    exact Option.some_ne_none b (hb'.symm.trans hb)
  | some b =>
    obtain ⟨hx, -⟩ := (mem_decodeTable_index_iff hn hd).2 ⟨b, hb, rfl⟩
    exact FieldTable.lookup_of_mem (decodeTable_wf hn raw o) hx

end

/-- Settles O24: the entries under a field's index are the one its byte makes, if the byte is there. -/
theorem partialDecodeKeepsInBoundsFields : Obligations.PartialDecodeKeepsInBoundsFields := by
  intro s raw l hw
  refine ⟨_, _, exec_fldDec_wf s raw hw, fun e he => ?_⟩
  have hentry {x : FieldEntry} := mem_decodeTable_index_iff (raw := raw) (o := l.offset) (x := x)
    ((Layout.wf_iff l).1 hw) he
  refine ⟨?key, fun x hx hi => ?value⟩
  case key =>
    rw [← exists_fieldByte_iff]
    constructor
    · rintro ⟨x, hx⟩
      obtain ⟨b, hb, -⟩ := hentry.1 hx
      exact ⟨b, hb⟩
    · rintro ⟨b, hb⟩
      exact ⟨_, hentry.2 ⟨b, hb, rfl⟩⟩
  case value =>
    obtain ⟨b, hb, rfl⟩ := hentry.1 ⟨hx, hi⟩
    obtain ⟨-, hraw⟩ := fieldByte_eq_some_iff.1 hb
    exact ⟨rfl, hraw⟩

/-! ### The getters after a refresh (R173, R176) -/

/-- A refresh that answers Ok has put in place the table of the bytes it read, at most `max_reply` of them. -/
theorem table_of_sesRefresh_ok {bytes : List Byte} {fs : List FaultValue} (ha : s.nextAnswer = .reply bytes)
    (h : exec .sesRefresh s = .next t) (hr : t.result = some (.ok fs)) :
    t.session.table =
      decodeTable (bytes.take s.session.maxReply.toNat) s.session.layout.offset s.session.layout.fields := by
  obtain ⟨a, h⟩ := State.withThermostat_next h
  obtain ⟨-, rfl⟩ := State.unlessSilent_next h
  cases hv : (validate s.params masterAddr a .read (bytes.take s.session.maxReply.toNat)).valid with
  | false =>
    rw [State.roundTrip_invalid _ ha hv] at hr
    cases hr
  | true =>
    rw [State.roundTrip_valid _ ha hv]
    rfl

theorem exec_sesGet_absent (h : FieldTable.lookup s.session.table i = none) :
    exec (.sesGet i) s = .next (s.raise (.staleData i)) := congrArg Host.Outcome.next (State.getField_absent _ h)

theorem exec_sesGet_present {e : FieldEntry} (h : FieldTable.lookup s.session.table i = some e) :
    exec (.sesGet i) s = .next (s.answer (.entry e.label e.value)) :=
  congrArg Host.Outcome.next (State.getField_present _ h)

/-- Settles O33: the table a getter looks in is the one just decoded, and what was read is the front of the reply. -/
theorem refreshThenGetReadsTheReply : Obligations.RefreshThenGetReadsTheReply := by
  rintro s t bytes fs ⟨hw, -⟩ ha h hr e he
  have hlookup := lookup_decodeTable ((Layout.wf_iff _).1 hw) (bytes.take s.session.maxReply.toNat)
    s.session.layout.offset he
  rw [← table_of_sesRefresh_ok ha h hr] at hlookup
  refine ⟨fun h0 hlen => ?inBounds, fun hout => ?outOfBounds⟩
  case inBounds =>
    obtain ⟨b, hb⟩ := exists_fieldByte_iff.2 ⟨h0, hlen⟩
    obtain ⟨-, hread⟩ := fieldByte_eq_some_iff.1 hb
    rw [List.getElem?_take_of_lt (by rw [List.length_take] at hlen; omega)] at hread
    rw [hb] at hlookup
    exact ⟨b, hread, exec_sesGet_present hlookup⟩
  case outOfBounds =>
    rw [fieldByte_eq_none_iff.2 hout] at hlookup
    exact exec_sesGet_absent hlookup

end Sys2Proof.Machine
end

section
/-! PROOFS. The getters (`spec/44_session.md` R176 to R180): each answers what the Field Table holds under its index, or
StaleDataFault of that index; no exchange is made. -/

namespace Sys2Proof.Machine

open Sys2Proof.Claims

variable {s : State} {i : Nat} {e : FieldEntry}

theorem State.getField_of_no_key (k : FieldEntry → Result) (h : ∀ e ∈ s.session.table, e.index ≠ i) :
    s.getField i k = s.raise (.staleData i) := State.getField_absent k (FieldTable.lookup_eq_none.2 h)

theorem State.getField_of_mem (k : FieldEntry → Result) (hn : (s.session.table.map (·.index)).Nodup)
    (he : e ∈ s.session.table) (hi : e.index = i) : s.getField i k = s.answer (k e) := by
  subst hi
  exact State.getField_present k (FieldTable.lookup_of_mem (decide_eq_true hn) he)

/-- Settles O28: an index without an entry is no key, and with distinct keys an entry is found under its own. -/
theorem sesGetReadsTheTable : Obligations.SesGetReadsTheTable :=
  ⟨fun _ _ => issue_of_encode rfl rfl, fun _ _ h => congrArg Host.Outcome.next (State.getField_of_no_key _ h),
    fun _ _ hn he => congrArg Host.Outcome.next (State.getField_of_mem _ hn he rfl)⟩

/-- Settles O29: both getters answer the value of their entry as it is. -/
theorem temperatureGettersReadRawByte : Obligations.TemperatureGettersReadRawByte := by
  refine ⟨fun s => ⟨issue_of_encode rfl rfl, issue_of_encode rfl rfl⟩, ?noTarget, ?target, ?noFloorMax, ?floorMax⟩
  case noTarget | noFloorMax => exact fun s h => congrArg Host.Outcome.next (State.getField_of_no_key _ h)
  case target | floorMax => exact fun s e hn he hi => congrArg Host.Outcome.next (State.getField_of_mem _ hn he hi)

theorem exec_sesGetMode_of_mem (hn : (s.session.table.map (·.index)).Nodup) (he : e ∈ s.session.table)
    (hi : e.index = s.session.attrs.idxMode) :
    exec .sesGetMode s = .next (s.answer (if e.value = 0 then .label "5/2 day" else if e.value = 1 then .label "7 day"
      else .fault (.enum e.index e.value))) := by
  simp only [exec, execSesGetMode, State.getField_of_mem _ hn he hi, modeLabel, hi]
  split_ifs <;> rfl

/-- Settles O30: the label table has the codes 0 and 1 (R7). -/
theorem modeGetterLabelsTheCode : Obligations.ModeGetterLabelsTheCode :=
  ⟨fun _ => issue_of_encode rfl rfl, fun _ h => congrArg Host.Outcome.next (State.getField_of_no_key _ h),
    fun _ _ hn he hi => exec_sesGetMode_of_mem hn he hi⟩

/-- Settles O31: the session's label vector has the positions 0 to 4. -/
theorem sensorGetterLabelsTheCode : Obligations.SensorGetterLabelsTheCode := by
  refine ⟨fun s => issue_of_encode rfl rfl, fun s h => congrArg Host.Outcome.next (State.getField_of_no_key _ h),
    fun s e hlt hn he hi => ?label, fun s e hle hn he hi => ?enum⟩
  case label =>
    simp only [exec, execSesGetSensor, State.getField_of_mem _ hn he hi, Vector.getElem?_eq_getElem hlt]
    rfl
  case enum =>
    simp only [exec, execSesGetSensor, State.getField_of_mem _ hn he hi, Vector.getElem?_eq_none hle, hi]
    rfl

end Sys2Proof.Machine
end

section
/-! PROOFS. The exchanges (`spec/44_session.md` R173 to R175, R181 to R184, R186): what one leaves of the adapter it is made
on, the outcomes of SES.REFRESH and SES.WRREG, the setters as SES.WRREG inside their range, and the states in which every
operation answers. Then session construction (R171). -/

namespace Sys2Proof.Machine

open Sys2Proof.Claims

variable {s t u : State} {a : Byte} {r v : Nat}

/-! ### The adapter after an exchange -/

theorem exchanged_after (tr : Transport) (made : List TransportCall) : Exchanged tr (tr.after made) made :=
  ⟨tr.after_calls made, tr.after_script made, tr.after_drawn made⟩

theorem State.AfterExchange.exchanged (h : s.AfterExchange u) :
    ∃ req, Exchanged s.transport u.transport [.write req] ∨
      Exchanged s.transport u.transport [.write req, .read s.session.maxReply.toNat] := by
  obtain ⟨req, made, hmade, rfl⟩ := h
  rw [State.setTransport_transport]
  obtain rfl | rfl := hmade
  · exact ⟨req, .inl (exchanged_after _ _)⟩
  · exact ⟨req, .inr (exchanged_after _ _)⟩

theorem State.AfterExchange.readAdapter_other (h : s.AfterExchange u) {k : Nat} (hk : k ≠ s.session.adapter) :
    readAdapter k u.adapters = readAdapter k s.adapters := by
  obtain ⟨req, made, -, rfl⟩ := h
  exact readAdapter_writeAdapter_other hk _ _

/-- The adapters after an instruction are those before it, or those right after its one exchange. -/
theorem exec_adapters {i : Instr} (h : exec i s = .next t) :
    t.adapters = s.adapters ∨ ∃ u, s.AfterExchange u ∧ t.adapters = u.adapters ∧ t.transport = u.transport := by
  cases exec_effect h with
  | answers _ ha =>
    obtain ⟨a, r, rfl⟩ := ha
    exact .inl rfl
  | exchanges u _ hu r e =>
    subst e
    exact .inr ⟨u, hu, rfl, rfl⟩
  | refreshes u _ hu raw faults e =>
    subst e
    exact .inr ⟨u, hu, rfl, rfl⟩

theorem exec_adapters_of_not_exchanges {i : Instr} (hi : i.exchanges = false) (h : exec i s = .next t) :
    t.adapters = s.adapters := by
  obtain ⟨a, r, rfl⟩ := exec_answersOnly hi h
  rfl

/-- Settles O42: an exchange replaces its session's own adapter and no other. -/
theorem oneExchangeAtMost : Obligations.OneExchangeAtMost := by
  intro i s t h
  refine ⟨fun hi => exec_adapters_of_not_exchanges hi h, ?_⟩
  obtain e | ⟨u, hu, e, etr⟩ := exec_adapters h
  · exact ⟨.inl e, fun k _ => by rw [e]⟩
  · rw [e, etr]
    exact ⟨.inr hu.exchanged, fun k hk => hu.readAdapter_other hk⟩

/-! ### SES.REFRESH (R173) -/

/-- The Field Table replaced by the decode of the bytes read, under the session's layout. -/
def State.storeReply (raw : List Byte) (s : State) : State :=
  (s.setTable (decodeTable raw s.session.layout.offset s.session.layout.fields)).answer
    (.ok (decodeFaults raw s.session.layout.offset s.session.layout.fields))

theorem exec_sesRefresh_of_byte (ha : s.session.busAddr = a.toNat) (hs : s.transport.silent = false) :
    exec .sesRefresh s = .next (s.roundTrip .read a (readFrame s.params a masterAddr 0) State.storeReply) :=
  (State.withThermostat_byte _ _ ha).trans (State.unlessSilent_of_not hs)

/-- Settles O25: one case for each answer of the adapter, and for a reply one for each verdict. -/
theorem refreshOutcomes : Obligations.RefreshOutcomes := by
  refine ⟨fun s => issue_of_encode rfl rfl, fun s th ha hs => ?_⟩
  rw [exec_sesRefresh_of_byte ha hs]
  cases hn : s.nextAnswer with
  | writeFault e => exact ⟨none, _, exchanged_after _ _, by rw [State.roundTrip_writeFault _ hn]; rfl⟩
  | readFault e => exact ⟨none, _, exchanged_after _ _, by rw [State.roundTrip_readFault _ hn]; rfl⟩
  | reply bytes =>
    exact ⟨none, _, exchanged_after _ _, _, _, rfl, rfl, fun hv => by rw [State.roundTrip_valid _ hn hv]; rfl,
      fun hv => by rw [State.roundTrip_invalid _ hn hv]; rfl⟩

/-! ### SES.WRREG (R174) -/

theorem exec_sesWrreg (s : State) (r v : Nat) : exec (.sesWrreg r v) s = s.writeRegister r v := rfl

theorem State.writeRegister_valueTooWide (s : State) (r : Nat) (hv : 255 < v) :
    s.writeRegister r v = .next (s.raise (.build .valueTooWide)) := if_pos hv

theorem State.writeRegister_startRegisterTooWide (ha : s.session.busAddr = a.toNat) (hv : v ≤ 255) (hr : 0xFFFF < r) :
    s.writeRegister r v = .next (s.raise (.build .startRegisterTooWide)) := by
  rw [State.writeRegister, if_neg (by omega), State.withThermostat_byte _ _ ha, buildWrite, if_pos hr]

theorem buildWrite_one_byte (p : Params) (d x b : Byte) (hr : r ≤ 0xFFFF) :
    buildWrite p d x r [b] = .ok (writeFrame p d x (BitVec.ofNat 16 r) [b]) := if_neg (by omega)

theorem State.writeRegister_of_byte (ha : s.session.busAddr = a.toNat) (hv : v ≤ 255) (hr : r ≤ 0xFFFF)
    (hs : s.transport.silent = false) :
    s.writeRegister r v = .next (s.roundTrip .write a
      (writeFrame s.params a masterAddr (BitVec.ofNat 16 r) [BitVec.ofNat 8 v]) (fun _ s' => s'.answer (.ok []))) := by
  rw [State.writeRegister, if_neg (by omega), State.withThermostat_byte _ _ ha, buildWrite_one_byte _ _ _ _ hr]
  exact State.unlessSilent_of_not hs

/-- Settles O26: the two faults before the exchange, then one case for each answer of the adapter and each verdict. -/
theorem wrregOutcomes : Obligations.WrregOutcomes := by
  refine ⟨fun s r v => issue_of_encode rfl rfl, fun s r v hv => s.writeRegister_valueTooWide r hv,
    fun s th r v ha hv hr => State.writeRegister_startRegisterTooWide ha hv hr, ?_⟩
  rintro s th r v req ha hv hr hs rfl
  rw [exec_sesWrreg, State.writeRegister_of_byte ha hv hr hs]
  cases hn : s.nextAnswer with
  | writeFault e => exact ⟨none, _, exchanged_after _ _, by rw [State.roundTrip_writeFault _ hn]; rfl⟩
  | readFault e => exact ⟨none, _, exchanged_after _ _, by rw [State.roundTrip_readFault _ hn]; rfl⟩
  | reply bytes =>
    exact ⟨none, _, exchanged_after _ _, _, rfl, fun hv => by rw [State.roundTrip_valid _ hn hv]; rfl,
      fun hv => by rw [State.roundTrip_invalid _ hn hv]; rfl⟩

/-! ### Where an operation answers (R186) -/

theorem State.exists_byte_busAddr (h : 0 ≤ s.session.busAddr ∧ s.session.busAddr ≤ 255) :
    ∃ a : Byte, s.session.busAddr = a.toNat := by
  obtain ⟨a, ha, -⟩ | ⟨hout, -⟩ := byteOf_cases s.session.busAddr
  · exact ⟨a, ha⟩
  · omega

theorem State.writeRegister_answers (ha : s.session.busAddr = a.toNat) (hs : s.transport.silent = false) (r v : Nat) :
    ∃ u, s.writeRegister r v = .next u := by
  obtain ⟨-, e⟩ | ⟨-, hout, -⟩ | ⟨-, -, b, -, e⟩ | ⟨-, -, b, -, e⟩ := s.writeRegister_cases r v
  · exact ⟨_, e⟩
  · have := a.isLt
    omega
  · exact ⟨_, e⟩
  · exact ⟨_, e.trans (State.unlessSilent_of_not hs)⟩

theorem State.setRegister_answers (ha : s.session.busAddr = a.toNat) (hs : s.transport.silent = false) (w : Setter)
    (g : Range) (r : Nat) (z : Int) : ∃ u, s.setRegister w g r z = .next u := by
  obtain ⟨-, e⟩ | ⟨-, -, e⟩ := s.setRegister_cases w g r z <;> rw [e]
  · exact ⟨_, rfl⟩
  · exact State.writeRegister_answers ha hs r z.toNat

theorem exec_crcRd_answers (s : State) : ∃ u, exec .crcRd s = .next u := by
  cases ha : s.acc with
  | none => exact ⟨_, exec_crcRd_unwritten ha⟩
  | some a => exact ⟨_, exec_crcRd_written ha⟩

theorem exec_fldGet_answers (s : State) (raw : List Byte) (i : Nat) (o : Int) :
    ∃ u, exec (.fldGet raw i o) s = .next u := by
  cases hb : fieldByte raw i o with
  | none => exact ⟨_, exec_fldGet_outside s hb⟩
  | some b => exact ⟨_, exec_fldGet_inside s hb⟩

/-- The three conditions of a safe state each bear on the instructions that could stop without it. -/
theorem exec_answers_of_safeFor {i : Instr} (h : s.safeFor i) : ∃ t, exec i s = .next t := by
  obtain ⟨hsilent, haddr, hwf⟩ := h
  have hbyte (hu : i.usesBusAddr = true) := State.exists_byte_busAddr (haddr hu)
  cases i with
  | crcRd => exact exec_crcRd_answers s
  | fldGet raw i o => exact exec_fldGet_answers s raw i o
  | fldDec raw l => exact ⟨_, exec_fldDec_wf s raw hwf⟩
  | sesRefresh =>
    obtain ⟨a, ha⟩ := hbyte rfl
    exact ⟨_, exec_sesRefresh_of_byte ha (hsilent rfl)⟩
  | sesWrreg r v =>
    obtain ⟨a, ha⟩ := hbyte rfl
    exact State.writeRegister_answers ha (hsilent rfl) r v
  | sesSetTarget | sesSetFrost | sesSetFloormax =>
    obtain ⟨a, ha⟩ := hbyte rfl
    exact State.setRegister_answers ha (hsilent rfl) _ _ _ _
  | rpyframeRead | rpyframeWriteack =>
    obtain ⟨a, ha⟩ := hbyte rfl
    exact ⟨_, State.withThermostat_byte _ _ ha⟩
  | _ => exact ⟨_, rfl⟩

theorem exec_result_isSome {i : Instr} (h : exec i s = .next t) : t.result.isSome = true := by
  cases exec_effect h with
  | answers _ ha =>
    obtain ⟨a, r, rfl⟩ := ha
    rfl
  | exchanges u _ _ r e =>
    subst e
    rfl
  | refreshes u _ _ raw faults e =>
    subst e
    rfl

/-- Settles O45: whatever an instruction does ends in an answer, and in a safe state nothing stops it. -/
theorem everyOperationAnswers : Obligations.EveryOperationAnswers :=
  ⟨fun _ _ _ => exec_result_isSome, fun _ _ => exec_answers_of_safeFor⟩

/-! ### The setters (R181 to R184) -/

/-- A setter's range check, and inside the range SES.WRREG of its register, for any setter, range and register (R181). -/
theorem State.setRegister_checksRange (s : State) (w : Setter) (g : Range) (r : Nat) (z : Int) :
    (z < g.min ∨ g.max < z → s.setRegister w g r z = .next (s.raise (.range w z))) ∧
      (g.min ≤ z → z ≤ g.max → s.setRegister w g r z = exec (.sesWrreg r z.toNat) s ∧
        (s.transport.silent = false → 0 ≤ s.session.busAddr → s.session.busAddr ≤ 255 →
          ∃ u, s.setRegister w g r z = .next u)) :=
  ⟨fun hout => if_pos hout, fun hmin hmax => ⟨if_neg (by omega), fun hs h0 h255 =>
    have ⟨_, ha⟩ := State.exists_byte_busAddr ⟨h0, h255⟩
    State.setRegister_answers ha hs w g r z⟩⟩

/-- Settles O56: the three setters are one operation with three ranges and registers. -/
theorem settersCheckAnyRange : Obligations.SettersCheckAnyRange :=
  fun s z => ⟨s.setRegister_checksRange .target _ _ z, s.setRegister_checksRange .frost _ _ z,
    s.setRegister_checksRange .floorMax _ _ z⟩

/-- Settles O32: DOC0's ranges are values of the range parameters. -/
theorem settersCheckTheirRange : Obligations.SettersCheckTheirRange := by
  refine ⟨fun s z => ⟨issue_of_encode rfl rfl, issue_of_encode rfl rfl, issue_of_encode rfl rfl⟩, fun s z hg => ?target,
    fun s z hg => ?frost, fun s z hg => ?floorMax⟩
  case target =>
    obtain ⟨h, -, -⟩ := settersCheckAnyRange s z
    rw [hg] at h
    exact h
  case frost =>
    obtain ⟨-, h, -⟩ := settersCheckAnyRange s z
    rw [hg] at h
    exact h
  case floorMax =>
    obtain ⟨-, -, h⟩ := settersCheckAnyRange s z
    rw [hg] at h
    exact h

/-! ### Session construction (R171) -/

/-- Settles O48: the provider's answer and the layout's indices decide. -/
theorem constructionMakesAnEmptySession : Obligations.ConstructionMakesAnEmptySession :=
  fun _ _ _ l _ _ _ => ⟨fun h => if_pos ((Layout.wf_iff l).2 h),
    fun h => if_neg (Bool.eq_false_iff.1 ((Layout.wf_eq_false_iff l).2 h)), rfl⟩

end Sys2Proof.Machine
end

section
/-! PROOFS. What a faulting operation leaves as it was (`spec/60_exceptions.md` R200), and the choice of a session by the
input that names it (R220, log entry 13). -/

namespace Sys2Proof.Machine

variable {s u : State} {n : SessionName}

/-- Settles O43: persistent state is written only where a refresh replaces the table, and then the result is Ok (R173). -/
theorem faultingOperationsWriteNothing : Obligations.FaultingOperationsWriteNothing := by
  intro i s t f h hf
  cases exec_effect h with
  | answers _ ha =>
    obtain ⟨a, r, rfl⟩ := ha
    exact ⟨rfl, rfl, rfl, rfl⟩
  | exchanges u _ hu r e =>
    obtain ⟨req, made, -, rfl⟩ := hu
    subst e
    exact ⟨rfl, rfl, rfl, rfl⟩
  | refreshes u _ _ raw faults e =>
    subst e
    cases hf

/-! ### Choosing a session -/

theorem sessionName_eq_iff {x : Session} {k : Nat} {a : Int} :
    sessionName x = ⟨k, a⟩ ↔ x.adapter = k ∧ x.busAddr = a := by
  simp only [sessionName, SessionName.mk.injEq]

/-- No session is taken out of a list exactly when none in it has the name. -/
theorem takeSession_eq_none_iff {l : List Session} : takeSession n l = none ↔ ∀ x ∈ l, sessionName x ≠ n := by
  induction l with
  | nil => simp [takeSession]
  | cons y ys ih =>
    rw [List.forall_mem_cons, ← ih, takeSession]
    by_cases hy : sessionName y = n
    · simp [hy]
    · cases takeSession n ys <;> simp [hy]

/-- No session is chosen exactly when none, active or not, has the name. -/
theorem State.select_eq_none_iff : s.select n = none ↔ ∀ x ∈ s.session :: s.others, sessionName x ≠ n := by
  rw [List.forall_mem_cons, ← takeSession_eq_none_iff, State.select]
  by_cases hs : sessionName s.session = n
  · simp [hs]
  · cases takeSession n s.others <;> simp [hs]

theorem State.take_of_select_some {input : Input} (h : s.select n = some u) :
    s.take ⟨some n, input⟩ = u.run input := by simp only [State.take, h]

theorem State.take_of_select_none {input : Input} (h : s.select n = none) :
    s.take ⟨some n, input⟩ = .refused (.noSuchSession n) := by simp only [State.take, h]

/-- Settles O49: taking the input off leaves the sessions, so one is found by the name exactly when some session has it, and
choosing it only reorders them. -/
theorem choosingASessionKeepsThemAll : Obligations.ChoosingASessionKeepsThemAll := by
  intro s k a input rest hp
  rw [step_of_oldest_input hp]
  refine ⟨?named, ?absent⟩
  case named =>
    rintro ⟨x, hx, hn⟩
    have hsome : (s.setPending rest).select ⟨k, a⟩ ≠ none := fun h =>
      State.select_eq_none_iff.1 h x hx (sessionName_eq_iff.2 hn)
    obtain ⟨u, hu⟩ := Option.ne_none_iff_exists'.1 hsome
    obtain ⟨hname, hperm, hrest⟩ := State.select_some hu
    obtain ⟨hk, ha⟩ := sessionName_eq_iff.1 hname
    exact ⟨u, hk, ha, hperm.symm, hrest, State.take_of_select_some hu⟩
  case absent =>
    intro h
    have hnone : (s.setPending rest).select ⟨k, a⟩ = none :=
      State.select_eq_none_iff.2 fun x hx hn => h x hx (sessionName_eq_iff.1 hn)
    exact State.take_of_select_none hnone

end Sys2Proof.Machine
end

section
/-! PROOFS. The hazards of `spec/70_reset_and_hazards.md`: one CRC.INIT for two messages (R241), the read-your-own-write gap
(R242), and the adapter that never answers (R246, log entry 7). -/

namespace Sys2Proof.Machine

open Sys2Proof.Claims

variable {s t : State} {a : Byte} {r v : Nat}

/-! ### Two messages through one CRC.INIT (R241) -/

/-- Settles O10: the bytes of both messages are the bytes of their concatenation, folded from the one seed. -/
theorem twoMessagesOneSeedIsConcatenation : Obligations.TwoMessagesOneSeedIsConcatenation := by
  intro s m m'
  rw [← List.map_append, ← List.append_nil (List.map _ _)]
  exact ⟨_, execAll_crcBytes (m ++ m') crcSeed [], rfl⟩

/-! ### The adapter that never answers (R246) -/

/-- A session's address stops the machine with a fault only where the operation it is given to does. -/
theorem State.withThermostat_ne_fault {c : Byte} {k : Byte → Host.Outcome State Fault Refusal} {f : Fault}
    (hk : ∀ a, k a ≠ .fault f) : s.withThermostat c k ≠ .fault f := by
  obtain ⟨a, -, e⟩ | ⟨-, e⟩ := s.withThermostat_cases c k <;> rw [e]
  · exact hk a
  · nofun

theorem exec_fldDec_ne_fault (s : State) (raw : List Byte) (l : Layout) (f : Fault) :
    exec (.fldDec raw l) s ≠ .fault f := by
  cases hl : l.wf with
  | true => rw [exec_fldDec_wf s raw hl]; nofun
  | false => rw [exec_fldDec_repeatedIndex s raw hl]; nofun

/-- Without an exchange there is nothing to wait for: an instruction answers, or is refused. -/
theorem exec_ne_fault_of_not_exchanges {i : Instr} (hi : i.exchanges = false) (f : Fault) : exec i s ≠ .fault f := by
  cases i with
  | crcRd =>
    obtain ⟨u, e⟩ := exec_crcRd_answers s
    rw [e]
    nofun
  | fldGet raw i o =>
    obtain ⟨u, e⟩ := exec_fldGet_answers s raw i o
    rw [e]
    nofun
  | fldDec raw l => exact exec_fldDec_ne_fault s raw l f
  | rpyframeRead | rpyframeWriteack => exact State.withThermostat_ne_fault nofun
  | sesRefresh | sesWrreg | sesSetTarget | sesSetFrost | sesSetFloormax => cases hi
  | _ => nofun

theorem exec_sesRefresh_of_silent (ha : s.session.busAddr = a.toNat) (hs : s.transport.silent = true) :
    exec .sesRefresh s = .fault .transportHang :=
  (State.withThermostat_byte _ _ ha).trans (State.unlessSilent_of_silent hs)

theorem State.writeRegister_of_silent (ha : s.session.busAddr = a.toNat) (hs : s.transport.silent = true)
    (hv : v ≤ 255) (hr : r ≤ 0xFFFF) : s.writeRegister r v = .fault .transportHang := by
  rw [State.writeRegister, if_neg (by omega), State.withThermostat_byte _ _ ha, buildWrite_one_byte _ _ _ _ hr]
  exact State.unlessSilent_of_silent hs

theorem State.setRegister_of_silent {w : Setter} {g : Range} {z : Int} (ha : s.session.busAddr = a.toNat)
    (hs : s.transport.silent = true) (hz : z ≤ 255) (hmin : g.min ≤ z) (hmax : z ≤ g.max) (hr : r ≤ 0xFFFF) :
    s.setRegister w g r z = .fault .transportHang := by
  rw [State.setRegister, if_neg (by omega)]
  exact State.writeRegister_of_silent ha hs (by omega) hr

/-- Settles O27: only an exchange waits for the adapter, and each of the five operations reaches its exchange. -/
theorem silentAdapterHangsExchanges : Obligations.SilentAdapterHangsExchanges := by
  refine fun s hs => ⟨fun i hi => exec_ne_fault_of_not_exchanges hi, fun h0 h255 => ?_⟩
  obtain ⟨a, ha⟩ := State.exists_byte_busAddr ⟨h0, h255⟩
  refine ⟨exec_sesRefresh_of_silent ha hs, fun r v hv hr => State.writeRegister_of_silent ha hs hv hr,
    fun z hz => ⟨?target, ?frost, ?floorMax⟩⟩
  case target | frost | floorMax => exact State.setRegister_of_silent ha hs hz

/-! ### The read-your-own-write gap (R242) -/

/-- Any instruction but SES.REFRESH leaves the active session, its Field Table included, as it was (R10). -/
theorem exec_session_of_ne_sesRefresh {i : Instr} (hi : i ≠ .sesRefresh) (h : exec i s = .next t) :
    t.session = s.session := by
  cases exec_effect h with
  | answers _ ha =>
    obtain ⟨a, r, rfl⟩ := ha
    rfl
  | exchanges u _ hu r e =>
    subst e
    exact hu.session_eq
  | refreshes _ hrefresh => exact absurd hrefresh hi

/-- What a getter's steps answer is decided by the active session, through its Field Table (R176). -/
theorem State.getField_result_of_session_eq (h : t.session = s.session) (i : Nat) (k : FieldEntry → Result) :
    (t.getField i k).result = (s.getField i k).result := by
  obtain ⟨hl, e⟩ | ⟨x, hl, -, -, e⟩ := s.getField_cases i k <;> rw [e]
  · rw [State.getField_absent k (h ▸ hl)]
    rfl
  · rw [State.getField_present k (h ▸ hl)]
    rfl

/-- Settles O34: the writes leave the session, and a getter reads nothing but the session. -/
theorem writesLeaveTheGettersAlone : Obligations.WritesLeaveTheGettersAlone := by
  intro s t i g h hwrite hget
  have hi : i ≠ .sesRefresh := by
    obtain ⟨r, v, rfl⟩ | ⟨z, rfl | rfl | rfl⟩ := hwrite <;> nofun
  have hs := exec_session_of_ne_sesRefresh hi h
  obtain ⟨k, rfl⟩ | rfl | rfl | rfl | rfl := hget <;> refine ⟨_, _, rfl, rfl, ?_⟩
  case inl | inr.inl => exact State.getField_result_of_session_eq hs _ _
  case inr.inr.inl | inr.inr.inr.inl | inr.inr.inr.inr =>
    rw [hs]
    exact State.getField_result_of_session_eq hs _ _

end Sys2Proof.Machine
end
